-- ==== Sys2Proof/Word.lean ====
section
/-! DEFINITION. The words of CORE: a register is 32 bits wide (10_state.md, section 2), a block 128 bits
(30_encoding.md R136), a half pattern 16 bits, a bus byte 8 bits. -/

namespace Sys2Proof

/-- A host register's contents (10_state.md: all host registers are 32 bits wide). -/
abbrev Word := BitVec 32

/-- A compressed block (30_encoding.md R136: every block is exactly 128 bits). -/
abbrev Block := BitVec 128

/-- One byte of an encoding, as the bus and a surface store it (20_memory.md R82). -/
abbrev Byte := BitVec 8

/-- The output format of a block (00_scope.md R2, CFG.FORMAT of 10_state.md R33). -/
inductive Format where
  | bc7
  | bc6h
deriving DecidableEq, Repr

end Sys2Proof
end

