-- ==== Sys2Proof/Config.lean ====
section
/-! DEFINITION. The parameters a model of CORE takes (00_scope.md R7), the values this hardware takes, and the free
values: constants with no body, for what the spec leaves open. -/

namespace Sys2Proof

/-- The parameters of 00_scope.md R7 that a machine takes as arguments and never changes. LATENCY is `Config.latency`,
N_CORES the number of machines of a platform, and the others are fixed by the formats (log 15). -/
structure Params where
  /-- FIT_ITERS, power-iteration steps of the reference fit (43_endpoint_fitter.md R227) -/
  fitIters : Nat
  /-- IMP_BOOST, importance-map multiplier (41_tile.md R185) -/
  impBoost : Nat
  /-- MODE_ORDER_BC7, candidate mode order (47_mode_selector.md R322) -/
  modeOrderBc7 : List Nat
  /-- MODE_ORDER_BC6H, candidate mode order (47_mode_selector.md R328) -/
  modeOrderBc6h : List Nat
  /-- CORE_BASE, bus address of the register window (20_memory.md R80) -/
  coreBase : Nat
deriving DecidableEq, Repr

/-- The values this hardware takes (00_scope.md R7). CORE_BASE is the platform's choice: 0 stands for it (log 17). -/
def Config.hardware : Params where
  fitIters := 8
  impBoost := 5
  modeOrderBc7 := [4, 5, 6, 1, 3, 7, 0, 2]
  modeOrderBc6h := [1, 2, 3, 4, 5, 6, 7, 8, 9, 10, 11, 12, 13, 14]
  coreBase := 0

/-- FREE VALUE: `freePixWord base n` is what free draw `n` of the instance at CORE_BASE `base` returns for a PIX word
that nothing has written since reset (70_reset_and_hazards.md R450: "a value the model draws freely (any value)").
Instances at different bases draw from unrelated values (60_exceptions.md R441). Logs 2 and 3. -/
opaque Config.freePixWord (base n : Nat) : Word

/-- FREE VALUE: `latency base n` is how many other steps a command that makes draw `n` of the instance at CORE_BASE
`base` at its acceptance stays BUSY before its completion step (70_reset_and_hazards.md R470: LATENCY is finite and not
specified). Logs 3 and 4. -/
opaque Config.latency (base n : Nat) : Nat

end Sys2Proof
end

