-- ==== Sys2Proof/Machine/Basics.lean ====
section
/-! DEFINITION. Helpers of the notation of 00_scope.md R9, R10: bit fields, assembling words from fields,
rounding, clamping, and the index of a list's best element, the first on a tie. -/

namespace Sys2Proof.Machine

/-- `v[lo + n - 1 : lo]`, the field of `n` bits from bit `lo`, as an unsigned integer (00_scope.md R9). -/
def bitsOf (v : Nat) (lo n : Nat) : Nat := v / 2 ^ lo % 2 ^ n

/-- A field of `n` bits from bit `lo` of a register. -/
def fieldOf (w : Word) (lo n : Nat) : Nat := bitsOf w.toNat lo n

/-- `sext(v, n)` of 00_scope.md R10: the low `n` bits of `v` read as two's complement. -/
def sext (v : Int) (n : Nat) : Int :=
  let u := v % 2 ^ n
  if u < 2 ^ (n - 1) then u else u - 2 ^ n

/-- Read fields of the given widths one after another from bit 0 of `x`, each least significant bit first
(00_scope.md R9), and give back the bits above them. -/
def readFields : List Nat → Nat → List Nat × Nat
  | [], x => ([], x)
  | w :: ws, x =>
    let rest := readFields ws (x / 2 ^ w)
    (x % 2 ^ w :: rest.1, rest.2)

/-- Place fields (width, value) back to back from bit 0 (00_scope.md R9). The value of a well-formed field is
below two to its width, and the remainder keeps an ill-formed one out of its neighbour. -/
def packFields : List (Nat × Nat) → Nat
  | [] => 0
  | (w, v) :: fs => v % 2 ^ w + 2 ^ w * packFields fs

/-- `clamp(x, lo, hi)` over the rationals. -/
def clampRat (x lo hi : Rat) : Rat := if x < lo then lo else if hi < x then hi else x

/-- `clamp(x, lo, hi)` over the integers. -/
def clampInt (x lo hi : Int) : Int := if x < lo then lo else if hi < x then hi else x

/-- `round(x) = floor(x + 1/2)`, half rounds toward plus infinity (00_scope.md R10). -/
def roundHalfUp (x : Rat) : Int := (x + 1 / 2).floor

/-- `|x|` over the rationals. -/
def absRat (x : Rat) : Rat := if x < 0 then -x else x

/-- The walk of `argFirst`: `bi` is the index of the best element so far, `bv` its value, `i` the next index. -/
def argFirstFrom {α : Type} (better : α → α → Bool) (bi : Nat) (bv : α) (i : Nat) : List α → Nat
  | [] => bi
  | x :: xs => if better x bv then argFirstFrom better i x (i + 1) xs else argFirstFrom better bi bv (i + 1) xs

/-- The lowest index whose element no element of the list is better than (ties go to the lowest index,
92_eei_decisions.md D19), 0 for an empty list. -/
def argFirst {α : Type} (better : α → α → Bool) : List α → Nat
  | [] => 0
  | x :: xs => argFirstFrom better 0 x 1 xs

/-- The lowest index of a smallest rational. -/
def argMinRat (l : List Rat) : Nat := argFirst (fun a b => decide (a < b)) l

/-- The lowest index of a largest rational. -/
def argMaxRat (l : List Rat) : Nat := argFirst (fun a b => decide (b < a)) l

/-- The lowest index of a smallest natural number. -/
def argMinNat (l : List Nat) : Nat := argFirst (fun a b => decide (a < b)) l

/-- The pixel slots 0 to 15 in raster order (00_scope.md R12). -/
def pixels : List Nat := List.range 16

end Sys2Proof.Machine
end

