-- ==== Sys2Proof/Syntax.lean ====
section
/-! DEFINITION. The syntax: one constructor per row of the opcode table. The first group is the command word
(30_encoding.md R110, R111), whose operands are registers; the second the 128-bit block (30_encoding.md R131, R132,
R134, R137), whose operands are its fields. -/

namespace Sys2Proof

/-- The fields of a BC7 block after its mode (48_packer_bc7.md R361), each value as it stands in the block. -/
structure Block7 where
  /-- partition (shape) index, 0 in a mode without the field -/
  shape : Nat
  /-- rotation, 0 in a mode without the field -/
  rot : Nat
  /-- index selection bit, 0 in a mode without the field -/
  isb : Nat
  /-- colour endpoint codes in block order: channel, then region, then endpoint A before B -/
  codes : List Nat
  /-- the separate alpha endpoints A, B of modes 4 and 5, else empty -/
  alphas : List Nat
  /-- p-bits in block order -/
  pbits : List Nat
  /-- first index array, pixels 0 to 15 -/
  idx1 : List Nat
  /-- second index array of modes 4 and 5, else empty -/
  idx2 : List Nat
deriving DecidableEq, Repr, Inhabited

/-- The fields of a BC6H block after its mode (49_packer_bc6h.md R391), each value as it stands in the block: a delta
field of a transformed mode holds the stored delta. -/
structure Block6 where
  /-- shape index `d`, 0 in a one-region mode -/
  shape : Nat
  /-- stored endpoint fields, endpoint w, x (y, z in two-region modes), each R, G, B -/
  ends : List Nat
  /-- indices, pixels 0 to 15 -/
  idx : List Nat
deriving DecidableEq, Repr, Inhabited

/-- The instructions of the opcode table: the commands and the block encodings. -/
inductive Instr where
  /-- NOP, OPCODE 0x00: none (30_encoding.md R113). -/
  | nop
  /-- ENCODE, OPCODE 0x01: encode the tile in PIX (47_mode_selector.md R320). -/
  | encode
  /-- GETMODE, OPCODE 0x02: mode of the block in BIN0..3 (48_packer_bc7.md R371, 49_packer_bc6h.md R395). -/
  | getmode
  /-- SRESET, OPCODE 0x0F: soft reset (70_reset_and_hazards.md R452). -/
  | sreset
  /-- H2W, OPCODE 0x10: half bits to working value (40_half_float.md R164). -/
  | h2w
  /-- W2H, OPCODE 0x11: working value to half bits (40_half_float.md R165). -/
  | w2h
  /-- QUANT6, OPCODE 0x12: BC6H quantize (44_quantizer.md R250). -/
  | quant6
  /-- UNQUANT6, OPCODE 0x13: BC6H unquantize (44_quantizer.md R251). -/
  | unquant6
  /-- FINISH6, OPCODE 0x14: BC6H finish rescale (44_quantizer.md R252). -/
  | finish6
  /-- QUANT7, OPCODE 0x15: BC7 endpoint-channel quantize (44_quantizer.md R258). -/
  | quant7
  /-- EXPAND7, OPCODE 0x16: BC7 bit expansion (44_quantizer.md R259). -/
  | expand7
  /-- WEIGHT, OPCODE 0x17: weight look-up (45_palette.md R284). -/
  | weight
  /-- LERP, OPCODE 0x18: fixed-point interpolation (45_palette.md R285). -/
  | lerp
  /-- SHAPE, OPCODE 0x19: partition map (42_partition_lut.md R206). -/
  | shape
  /-- ANCHOR, OPCODE 0x1A: anchor pixels (42_partition_lut.md R207). -/
  | anchor
  /-- DELTA6, OPCODE 0x1B: BC6H delta encode (44_quantizer.md R249). -/
  | delta6
  /-- RESERVED_CMD: a command word outside the table of R110, with the word (30_encoding.md R111). -/
  | reservedCmd (w : Word)
  /-- BC7_MODE0: a BC7 block of mode 0 (48_packer_bc7.md R360, R361). -/
  | bc7Mode0 (b : Block7)
  /-- BC7_MODE1: a BC7 block of mode 1 (48_packer_bc7.md R360, R361). -/
  | bc7Mode1 (b : Block7)
  /-- BC7_MODE2: a BC7 block of mode 2 (48_packer_bc7.md R360, R361). -/
  | bc7Mode2 (b : Block7)
  /-- BC7_MODE3: a BC7 block of mode 3 (48_packer_bc7.md R360, R361). -/
  | bc7Mode3 (b : Block7)
  /-- BC7_MODE4: a BC7 block of mode 4 (48_packer_bc7.md R360, R361). -/
  | bc7Mode4 (b : Block7)
  /-- BC7_MODE5: a BC7 block of mode 5 (48_packer_bc7.md R360, R361). -/
  | bc7Mode5 (b : Block7)
  /-- BC7_MODE6: a BC7 block of mode 6 (48_packer_bc7.md R360, R361). -/
  | bc7Mode6 (b : Block7)
  /-- BC7_MODE7: a BC7 block of mode 7 (48_packer_bc7.md R360, R361). -/
  | bc7Mode7 (b : Block7)
  /-- BC7_RESERVED: a block whose bits 7:0 are zero, with its other bits (30_encoding.md R137). -/
  | bc7Reserved (rest : BitVec 120)
  /-- BC6H_MODE1: a BC6H block of mode 1 (49_packer_bc6h.md R390, R392). -/
  | bc6hMode1 (b : Block6)
  /-- BC6H_MODE2: a BC6H block of mode 2 (49_packer_bc6h.md R390, R392). -/
  | bc6hMode2 (b : Block6)
  /-- BC6H_MODE3: a BC6H block of mode 3 (49_packer_bc6h.md R390, R392). -/
  | bc6hMode3 (b : Block6)
  /-- BC6H_MODE4: a BC6H block of mode 4 (49_packer_bc6h.md R390, R392). -/
  | bc6hMode4 (b : Block6)
  /-- BC6H_MODE5: a BC6H block of mode 5 (49_packer_bc6h.md R390, R392). -/
  | bc6hMode5 (b : Block6)
  /-- BC6H_MODE6: a BC6H block of mode 6 (49_packer_bc6h.md R390, R392). -/
  | bc6hMode6 (b : Block6)
  /-- BC6H_MODE7: a BC6H block of mode 7 (49_packer_bc6h.md R390, R392). -/
  | bc6hMode7 (b : Block6)
  /-- BC6H_MODE8: a BC6H block of mode 8 (49_packer_bc6h.md R390, R392). -/
  | bc6hMode8 (b : Block6)
  /-- BC6H_MODE9: a BC6H block of mode 9 (49_packer_bc6h.md R390, R392). -/
  | bc6hMode9 (b : Block6)
  /-- BC6H_MODE10: a BC6H block of mode 10 (49_packer_bc6h.md R390, R392). -/
  | bc6hMode10 (b : Block6)
  /-- BC6H_MODE11: a BC6H block of mode 11 (49_packer_bc6h.md R390, R392). -/
  | bc6hMode11 (b : Block6)
  /-- BC6H_MODE12: a BC6H block of mode 12 (49_packer_bc6h.md R390, R392). -/
  | bc6hMode12 (b : Block6)
  /-- BC6H_MODE13: a BC6H block of mode 13 (49_packer_bc6h.md R390, R392). -/
  | bc6hMode13 (b : Block6)
  /-- BC6H_MODE14: a BC6H block of mode 14 (49_packer_bc6h.md R390, R392). -/
  | bc6hMode14 (b : Block6)
  /-- BC6H_RESERVED_13: a block of mode field 0x13, with its other bits (30_encoding.md R137). -/
  | bc6hReserved13 (rest : BitVec 123)
  /-- BC6H_RESERVED_17: a block of mode field 0x17, with its other bits (30_encoding.md R137). -/
  | bc6hReserved17 (rest : BitVec 123)
  /-- BC6H_RESERVED_1B: a block of mode field 0x1B, with its other bits (30_encoding.md R137). -/
  | bc6hReserved1B (rest : BitVec 123)
  /-- BC6H_RESERVED_1F: a block of mode field 0x1F, with its other bits (30_encoding.md R137). -/
  | bc6hReserved1F (rest : BitVec 123)
deriving DecidableEq, Repr

end Sys2Proof
end

