-- ==== Sys2Proof/Machine/State.lean ====
section
/-! DEFINITION. The state of CORE as plain data (10_state.md), the reasons a step can stop, and the state after
hardware reset (70_reset_and_hazards.md R450). -/

namespace Sys2Proof.Machine

/-- The host registers a bus write can change, with the tile buffer and the written marks: exactly what an accepted
command latches (10_state.md R46). -/
structure RwRegs where
  /-- CFG, 10_state.md R33 -/
  cfg : Word
  /-- TILEDIM, 10_state.md R34 -/
  tiledim : Word
  /-- THRESH_LO, 10_state.md R35 -/
  threshLo : Word
  /-- THRESH_HI, 10_state.md R35 -/
  threshHi : Word
  /-- FORCE, 10_state.md R36 -/
  force : Word
  /-- OPA, 10_state.md R37 -/
  opa : Word
  /-- OPB, 10_state.md R37 -/
  opb : Word
  /-- OPC, 10_state.md R37 -/
  opc : Word
  /-- BIN0..BIN3, 10_state.md R42 -/
  bin : Vector Word 4
  /-- PIXi_LO, 10_state.md R43; meaningful where `wrLo` is set (log 1) -/
  pixLo : Vector Word 16
  /-- PIXi_HI, 10_state.md R43; meaningful where `wrHi` is set (log 1) -/
  pixHi : Vector Word 16
  /-- PIXi_LO was written since hardware reset, 10_state.md R51, 70_reset_and_hazards.md R463 -/
  wrLo : Vector Bool 16
  /-- PIXi_HI was written since hardware reset, 10_state.md R51, 70_reset_and_hazards.md R463 -/
  wrHi : Vector Bool 16
  /-- IMPi, 10_state.md R44 -/
  imp : Vector Word 16
deriving DecidableEq, Repr

/-- A pair of quantized endpoints of a region with their p-bits (0 where the mode has none). -/
structure Ends where
  a : List Int
  b : List Int
  pA : Nat
  pB : Nat
deriving DecidableEq, Repr, Inhabited

/-- A candidate (00_scope.md R14, 47_mode_selector.md R321, R326): the packer's input (48_packer_bc7.md R366). -/
structure Candidate where
  mode : Nat
  shape : Nat
  rot : Nat
  isb : Nat
  /-- quantized endpoint codes and p-bits, one pair per region -/
  ends : List Ends
  /-- the separate alpha codes A, B of BC7 modes 4 and 5, else empty -/
  alphas : List Nat
  /-- colour indices, pixels 0 to 15 -/
  idx1 : List Nat
  /-- alpha indices of BC7 modes 4 and 5, pixels 0 to 15, else empty -/
  idx2 : List Nat
deriving DecidableEq, Repr

/-- A place in the candidate enumeration (10_state.md R47). -/
structure Position where
  mode : Nat
  shape : Nat
  rot : Nat
  isb : Nat
deriving DecidableEq, Repr

/-- The candidate registers of a running ENCODE (10_state.md R47). BEST_ERR is kept as the exact integer that
46_index_assign.md R303 says fits 64 bits (log 18). -/
structure CandRegs where
  bestErr : Option Nat
  best : Option Candidate
  pos : Position
deriving DecidableEq, Repr

/-- A command between its acceptance and its completion (10_state.md R45, R46, R47). -/
structure Running where
  /-- PENDING, the accepted CMD word -/
  pending : Word
  /-- the latched configuration -/
  latched : RwRegs
  /-- the candidate registers, present while the command is an ENCODE -/
  cand : Option CandRegs
  /-- MODEL field: how many other steps come before the completion step (70_reset_and_hazards.md R470, log 4) -/
  left : Nat
deriving DecidableEq, Repr

/-- SEQ of 10_state.md R45: PENDING, the latched configuration and the candidate registers exist only while busy
(70_reset_and_hazards.md R450). -/
inductive Seq where
  | idle
  | busy (r : Running)
deriving DecidableEq, Repr

/-- One thing the host does (30_encoding.md R138; log 5): a bus access of `bytes` bytes at a bus address
(20_memory.md R80: CORE_BASE + offset), a POLL that reads an address until BUSY is 0 in what it reads, or a request to
the reference decoder (log 7). -/
inductive HostEvent where
  | write (addr bytes : Nat) (v : Word)
  | read (addr bytes : Nat)
  | poll (addr : Nat)
  | refDecode (fmt : Format) (blk : Block)
deriving DecidableEq, Repr

/-- What the reference decoder last answered (48_packer_bc7.md R370, R372, 49_packer_bc6h.md R396): nothing yet, a
decode error, or the mode and the sixteen decoded pixels (BC7: R, G, B, A; BC6H: half patterns R, G, B). -/
inductive RefOut where
  | none
  | decodeError
  | tile (fmt : Format) (mode : Nat) (px : List (List Nat))
deriving DecidableEq, Repr

/-- The state of the machine (10_state.md R30). -/
structure State where
  /-- CMD, 10_state.md R32 -/
  cmd : Word
  /-- STATUS, 10_state.md R31 -/
  status : Word
  /-- RES, 10_state.md R38 -/
  res : Word
  /-- RINFO, 10_state.md R39 -/
  rinfo : Word
  /-- RERR_LO, 10_state.md R40 -/
  rerrLo : Word
  /-- RERR_HI, 10_state.md R40 -/
  rerrHi : Word
  /-- OUT0..OUT3, 10_state.md R41 -/
  out : Vector Word 4
  /-- the registers a bus write can change -/
  rw : RwRegs
  /-- the command sequencer, 10_state.md R45 -/
  seq : Seq
  /-- MODEL field: the parameters of this machine, which no step changes (00_scope.md R7, log 15) -/
  params : Params
  /-- MODEL field: what the host will still do, in order (log 5) -/
  host : List HostEvent
  /-- MODEL field: the hardware reset input at each coming step, asserted or not; past the end it is not asserted
  (70_reset_and_hazards.md R451, log 22) -/
  resetIn : List Bool
  /-- MODEL field: (offset, value) of the bus reads so far, newest first (log 6) -/
  reads : List (Nat × Word)
  /-- MODEL field: the reference decoder's last answer (log 7) -/
  refOut : RefOut
  /-- MODEL field: how many free values were drawn (log 3) -/
  draws : Nat
deriving DecidableEq, Repr

/-- Why a step stops with a fault. -/
inductive Fault where
  /-- ENCODE found a valid tile slot whose two PIX words were not both written since hardware reset
  (60_exceptions.md R427, 70_reset_and_hazards.md R463). Safe: the hardware's result is not defined. -/
  | unwrittenPixel
  /-- The host's next bus access is not 32 bits wide or not aligned: it has no step (20_memory.md R83,
  60_exceptions.md R428), CORE is idle and no hardware reset is to come. Safe: the spec defines no response. -/
  | stuckAccess
  /-- The host's next bus access lies outside the 0x200-byte window at CORE_BASE (20_memory.md R80), CORE is idle and
  no hardware reset is to come. Safe: the access is not CORE's. -/
  | outsideWindow
deriving DecidableEq, Repr

/-- Why a step is refused. -/
inductive Refusal where
  /-- `exec` has no meaning for the instruction. No arm raises it: every row of the opcode table has its meaning. -/
  | notModelled (mnemonic : String)
deriving DecidableEq, Repr

/-- The writable registers after hardware reset (70_reset_and_hazards.md R450). The PIX data are unspecified: 0 stands
there unread, behind clear written marks (log 1). -/
def RwRegs.reset : RwRegs where
  cfg := 0
  tiledim := 0x44
  threshLo := 0
  threshHi := 0
  force := 0
  opa := 0
  opb := 0
  opc := 0
  bin := Vector.replicate 4 0
  pixLo := Vector.replicate 16 0
  pixHi := Vector.replicate 16 0
  wrLo := Vector.replicate 16 false
  wrHi := Vector.replicate 16 false
  imp := Vector.replicate 16 1

/-- The machine right after hardware reset (70_reset_and_hazards.md R450), with nothing asked of it yet. -/
def State.reset : State where
  cmd := 0
  status := 0
  res := 0
  rinfo := 0
  rerrLo := 0
  rerrHi := 0
  out := Vector.replicate 4 0
  rw := RwRegs.reset
  seq := .idle
  params := Config.hardware
  host := []
  resetIn := []
  reads := []
  refOut := .none
  draws := 0

end Sys2Proof.Machine
end

