-- ==== Sys2Proof/Machine/Flags.lean ====
section
/-! DEFINITION. STATUS, RINFO and the configuration fields (10_state.md R31, R33, R34, R36, R39) and the error codes
(60_exceptions.md R420). -/

namespace Sys2Proof.Machine

/-- The error codes of 60_exceptions.md R420. -/
inductive ErrCode where
  | badCmd
  | badConfig
  | badTileDim
  | badShape
  | badPrec
  | rsvdMode
  | badOperand
deriving DecidableEq, Repr

/-- The value of STATUS.ERRCODE (60_exceptions.md R420). -/
def ErrCode.code : ErrCode → Nat
  | .badCmd => 1
  | .badConfig => 2
  | .badTileDim => 3
  | .badShape => 4
  | .badPrec => 5
  | .rsvdMode => 6
  | .badOperand => 7

/-- A word whose set bits are those of a number. -/
def wordOf (n : Nat) : Word := BitVec.ofNat 32 n

/-- STATUS.BUSY. -/
def statusBusy (st : Word) : Bool := fieldOf st 0 1 == 1
/-- STATUS.DONE. -/
def statusDone (st : Word) : Bool := fieldOf st 1 1 == 1
/-- STATUS.ERR. -/
def statusErr (st : Word) : Bool := fieldOf st 2 1 == 1
/-- STATUS.ERRCODE. -/
def statusErrCode (st : Word) : Nat := fieldOf st 4 4
/-- STATUS.WIGN. -/
def statusWign (st : Word) : Bool := fieldOf st 8 1 == 1
/-- STATUS.FALLBACK. -/
def statusFallback (st : Word) : Bool := fieldOf st 9 1 == 1

/-- STATUS from its fields (10_state.md R31), reserved bits 0. -/
def statusWord (busy done err : Bool) (code : Nat) (wign fallback : Bool) : Word :=
  wordOf (packFields [(1, busy.toNat), (1, done.toNat), (1, err.toNat), (1, 0), (4, code), (1, wign.toNat),
    (1, fallback.toNat)])

/-- STATUS in the write that accepts a command: BUSY set, everything else clear (10_state.md R31). -/
def statusAccepted : Word := statusWord true false false 0 false false

/-- STATUS at the completion of a command without error (10_state.md R31): WIGN stays as it is
(70_reset_and_hazards.md R460). -/
def statusCompleted (old : Word) (fallback : Bool) : Word :=
  statusWord false true false 0 (statusWign old) fallback

/-- STATUS at the completion of a command that raises an error (60_exceptions.md R424). -/
def statusError (old : Word) (e : ErrCode) : Word :=
  statusWord false true true e.code (statusWign old) false

/-- STATUS with WIGN set: a bus write was ignored (70_reset_and_hazards.md R460). -/
def statusIgnoredWrite (old : Word) : Word := old ||| wordOf (2 ^ 8)

/-- CFG.FORMAT. -/
def cfgFormat (c : Word) : Format := if fieldOf c 0 1 = 0 then .bc7 else .bc6h
/-- CFG.NUMFMT: is the numeric format signed? -/
def cfgSigned (c : Word) : Bool := fieldOf c 1 1 == 1
/-- CFG.ALPHA. -/
def cfgAlpha (c : Word) : Nat := fieldOf c 2 2
/-- CFG.EXHAUSTIVE. -/
def cfgExhaustive (c : Word) : Bool := fieldOf c 4 1 == 1
/-- CFG.IMPMAP. -/
def cfgImpMap (c : Word) : Bool := fieldOf c 5 1 == 1

/-- TILEDIM.W. -/
def tileW (t : Word) : Nat := fieldOf t 0 3
/-- TILEDIM.H. -/
def tileH (t : Word) : Nat := fieldOf t 4 3

/-- FORCE.EN. -/
def forceEn (f : Word) : Bool := fieldOf f 0 1 == 1
/-- FORCE.MODE. -/
def forceMode (f : Word) : Nat := fieldOf f 1 4
/-- FORCE.SHAPE. -/
def forceShape (f : Word) : Nat := fieldOf f 5 6
/-- FORCE.ROT. -/
def forceRot (f : Word) : Nat := fieldOf f 11 2
/-- FORCE.ISB. -/
def forceIsb (f : Word) : Nat := fieldOf f 13 1

/-- The writable bits of CFG: bits 5:0; HWACCEL is hard-wired 0 (10_state.md R33, R50). -/
def cfgMask : Word := 0x3F
/-- The writable bits of TILEDIM (10_state.md R34, R50). -/
def tiledimMask : Word := 0x77
/-- The writable bits of FORCE (10_state.md R36, R50). -/
def forceMask : Word := 0x3FFF
/-- The writable bits of IMPi (10_state.md R44, R50). -/
def impMask : Word := 0xFF

/-- The number of CFG.FORMAT's value. -/
def formatBit : Format → Nat
  | .bc7 => 0
  | .bc6h => 1

/-- RINFO of an error-free ENCODE (10_state.md R39, 47_mode_selector.md R333), VALID set. -/
def rinfoWord (fmt : Format) (p : Position) (fallback : Bool) : Word :=
  wordOf (packFields [(1, 1), (4, p.mode), (6, p.shape), (2, p.rot), (1, p.isb), (1, fallback.toNat), (1, formatBit fmt)])

/-- RINFO.MODE. -/
def rinfoMode (r : Word) : Nat := fieldOf r 1 4

end Sys2Proof.Machine
end

