-- ==== Sys2Proof/Machine/Operands.lean ====
section
/-! DEFINITION. The operand forms of the commands (30_encoding.md R112): the fields of the latched operand registers,
the block registers and the tile registers. -/

namespace Sys2Proof.Machine

/-- OPA read as two's complement ("s32", 30_encoding.md R112). -/
def opaS32 (r : RwRegs) : Int := r.opa.toInt
/-- OPB read as two's complement. -/
def opbS32 (r : RwRegs) : Int := r.opb.toInt
/-- OPA read as unsigned ("u32"). -/
def opaU32 (r : RwRegs) : Nat := r.opa.toNat
/-- OPB read as unsigned. -/
def opbU32 (r : RwRegs) : Nat := r.opb.toNat
/-- H2W's half pattern, OPA[15:0]. -/
def opHalf (r : RwRegs) : Nat := fieldOf r.opa 0 16
/-- The precision of QUANT6 and UNQUANT6, OPB[4:0]. -/
def opPrec6 (r : RwRegs) : Nat := fieldOf r.opb 0 5
/-- QUANT7's stored bits n, OPB[3:0]. -/
def opBits7 (r : RwRegs) : Nat := fieldOf r.opb 0 4
/-- QUANT7's p-bit enable, OPB[8]. -/
def opPen (r : RwRegs) : Nat := fieldOf r.opb 8 1
/-- QUANT7's p-bit, OPB[9]. -/
def opPbit (r : RwRegs) : Nat := fieldOf r.opb 9 1
/-- EXPAND7's width N, OPB[3:0]. -/
def opWidth7 (r : RwRegs) : Nat := fieldOf r.opb 0 4
/-- WEIGHT's index bits b, OPA[2:0]. -/
def opWeightBits (r : RwRegs) : Nat := fieldOf r.opa 0 3
/-- LERP's index bits b, OPC[2:0]. -/
def opLerpBits (r : RwRegs) : Nat := fieldOf r.opc 0 3
/-- LERP's index j, OPC[11:8]. -/
def opLerpIndex (r : RwRegs) : Nat := fieldOf r.opc 8 4
/-- The region count of SHAPE and ANCHOR, OPA[1:0]. -/
def opRegions (r : RwRegs) : Nat := fieldOf r.opa 0 2
/-- DELTA6's delta bits db, OPC[4:0]. -/
def opDeltaBits (r : RwRegs) : Nat := fieldOf r.opc 0 5

/-- A signed 32-bit result (30_encoding.md R112: RES as s32). -/
def wordOfInt (v : Int) : Word := BitVec.ofInt 32 v

/-- A block from its four words: block bit b is bit b mod 32 of word b div 32 (10_state.md R41, R42). -/
def blockOfWords (v : Vector Word 4) : Block :=
  BitVec.ofNat 128 (packFields [(32, v[0].toNat), (32, v[1].toNat), (32, v[2].toNat), (32, v[3].toNat)])

/-- The four words of a block (10_state.md R41, 20_memory.md R82). -/
def wordsOfBlock (b : Block) : Vector Word 4 :=
  #v[wordOf (bitsOf b.toNat 0 32), wordOf (bitsOf b.toNat 32 32), wordOf (bitsOf b.toNat 64 32),
     wordOf (bitsOf b.toNat 96 32)]

/-- The early-exit threshold `THRESH = THRESH_HI:THRESH_LO` (10_state.md R35). -/
def thresh (r : RwRegs) : Nat := r.threshLo.toNat + 2 ^ 32 * r.threshHi.toNat

/-- Slot `i` is written: both its PIX words were written since hardware reset (10_state.md R51). -/
def slotWritten (r : RwRegs) (i : Nat) : Bool := r.wrLo.toList.getD i false && r.wrHi.toList.getD i false

/-- The four 16-bit channels C0 to C3 of slot `i` (10_state.md R43). -/
def pixChannels (r : RwRegs) (i : Nat) : List Nat :=
  let lo := r.pixLo.toList.getD i 0
  let hi := r.pixHi.toList.getD i 0
  [fieldOf lo 0 16, fieldOf lo 16 16, fieldOf hi 0 16, fieldOf hi 16 16]

/-- The importance weight of slot `i`, IMPi[7:0] (10_state.md R44). -/
def impWeight (r : RwRegs) (i : Nat) : Nat := fieldOf (r.imp.toList.getD i 0) 0 8

end Sys2Proof.Machine
end

