-- ==== Sys2Proof/Machine/Ops.lean ====
section
/-! DEFINITION. The shared operations: accepting a command (10_state.md R32, R45, R46), completing one, raising an
error (60_exceptions.md R424, "the only trap CORE has"), the register map (20_memory.md R81) and the bus access. -/

namespace Sys2Proof.Machine

/-- The outcome type of this machine. -/
abbrev Outcome := Host.Outcome State Fault Refusal

/-- What a command reads: the latched copy while one runs (10_state.md R46), else the registers as they stand, the copy
an acceptance would make now (log 16). -/
def State.inputs (s : State) : RwRegs :=
  match s.seq with
  | .busy r => r.latched
  | .idle => s.rw

/-! ### The sequencer -/

/-- The start of the candidate registers of an ENCODE (10_state.md R47, 47_mode_selector.md R322, R328): none, at the
first candidate of the format's enumeration. -/
def CandRegs.start (P : Params) (fmt : Format) : CandRegs where
  bestErr := none
  best := none
  pos := match fmt with
    | .bc7 => ⟨P.modeOrderBc7.headD 0, 0, 0, 0⟩
    | .bc6h => ⟨P.modeOrderBc6h.headD 0, 0, 0, 0⟩

/-- Accept a CMD write (10_state.md R31, R32, R45, R46): store the word, set BUSY and clear the other flags, latch the
inputs; `left` other steps come before the completion step (log 4). The return from an error is this too
(60_exceptions.md R425). -/
def State.acceptWith (w : Word) (left : Nat) (s : State) : State :=
  { s with
    cmd := w
    status := statusAccepted
    seq := .busy
      { pending := w
        latched := s.rw
        cand := if w = 0x01 then some (CandRegs.start s.params (cfgFormat s.rw.cfg)) else none
        left := left } }

/-- Accept a CMD write with the latency drawn free (70_reset_and_hazards.md R470, logs 3 and 4). -/
def State.accept (w : Word) (s : State) : State :=
  { s.acceptWith w (Config.latency s.params.coreBase s.draws) with draws := s.draws + 1 }

/-- The completion step of a command without error: STATUS as 10_state.md R31 says, and the sequencer returns to IDLE
(R45). The result registers are written by the meaning before. -/
def State.complete (fallback : Bool) (s : State) : State :=
  { s with status := statusCompleted s.status fallback, seq := .idle }

/-- Error entry (60_exceptions.md R424): the command ends at once with ERR and ERRCODE; nothing else is written and the
sequencer returns to IDLE. -/
def State.raise (e : ErrCode) (s : State) : State :=
  { s with status := statusError s.status e, seq := .idle }

/-- Complete a unit command: RES and STATUS (10_state.md R38, R45). -/
def State.completeRes (v : Word) (s : State) : State := { s with res := v }.complete false

/-- A unit command ends with an error (the first failing check, 60_exceptions.md R421) or with its result in RES. -/
def unitResult (s : State) : Except ErrCode Word → Outcome
  | .error e => .next (s.raise e)
  | .ok v => .next (s.completeRes v)

/-! ### The register map -/

/-- The registers of 20_memory.md R81. -/
inductive Reg where
  | cmd | status | cfg | tiledim | threshLo | threshHi | force | opa | opb | opc | res | rinfo | rerrLo | rerrHi
  | out (k : Fin 4)
  | bin (k : Fin 4)
  | pixLo (i : Fin 16)
  | pixHi (i : Fin 16)
  | imp (i : Fin 16)
deriving DecidableEq, Repr

/-- The byte offset of a register (20_memory.md R81). -/
def Reg.offset : Reg → Nat
  | .cmd => 0x000
  | .status => 0x004
  | .cfg => 0x008
  | .tiledim => 0x00C
  | .threshLo => 0x010
  | .threshHi => 0x014
  | .force => 0x018
  | .opa => 0x020
  | .opb => 0x024
  | .opc => 0x028
  | .res => 0x02C
  | .rinfo => 0x030
  | .rerrLo => 0x038
  | .rerrHi => 0x03C
  | .out k => 0x040 + 4 * k
  | .bin k => 0x050 + 4 * k
  | .pixLo i => 0x100 + 8 * i
  | .pixHi i => 0x104 + 8 * i
  | .imp i => 0x180 + 4 * i

/-- The registers at single offsets. -/
def fixedRegs : List Reg :=
  [.cmd, .status, .cfg, .tiledim, .threshLo, .threshHi, .force, .opa, .opb, .opc, .res, .rinfo, .rerrLo, .rerrHi]

/-- Every register of the map (20_memory.md R81). -/
def allRegs : List Reg :=
  fixedRegs ++ (List.finRange 4).map .out ++ (List.finRange 4).map .bin ++ (List.finRange 16).map .pixLo ++
    (List.finRange 16).map .pixHi ++ (List.finRange 16).map .imp

/-- The register at an offset, `none` for an unmapped one (20_memory.md R81). -/
def regAt (off : Nat) : Option Reg := allRegs.find? fun r => r.offset == off

/-- The size of the register window in bytes (20_memory.md R80). -/
def windowSize : Nat := 0x200

/-- The offset a bus address has in the window at `base`, `none` outside the window (20_memory.md R80). -/
def offsetIn (base addr : Nat) : Option Nat :=
  if base ≤ addr ∧ addr < base + windowSize then some (addr - base) else none

/-- The value of a register that a bus read returns, but for an unwritten PIX word (20_memory.md R84, R85). -/
def State.regValue (s : State) : Reg → Word
  | .cmd => s.cmd
  | .status => s.status
  | .cfg => s.rw.cfg
  | .tiledim => s.rw.tiledim
  | .threshLo => s.rw.threshLo
  | .threshHi => s.rw.threshHi
  | .force => s.rw.force
  | .opa => s.rw.opa
  | .opb => s.rw.opb
  | .opc => s.rw.opc
  | .res => s.res
  | .rinfo => s.rinfo
  | .rerrLo => s.rerrLo
  | .rerrHi => s.rerrHi
  | .out k => s.out[k]
  | .bin k => s.rw.bin[k]
  | .pixLo i => s.rw.pixLo[i]
  | .pixHi i => s.rw.pixHi[i]
  | .imp i => s.rw.imp[i]

/-- Is the register a PIX word that nothing has written since hardware reset (10_state.md R43)? -/
def State.unwritten (s : State) : Reg → Bool
  | .pixLo i => !s.rw.wrLo[i]
  | .pixHi i => !s.rw.wrHi[i]
  | _ => false

/-- What a write to a register stores (10_state.md R32 to R44, R50): the writable bits; a read-only register ignores
it. CMD is not written here: a CMD write starts a command (R32). -/
def RwRegs.write (r : RwRegs) (v : Word) : Reg → RwRegs
  | .cfg => { r with cfg := v &&& cfgMask }
  | .tiledim => { r with tiledim := v &&& tiledimMask }
  | .threshLo => { r with threshLo := v }
  | .threshHi => { r with threshHi := v }
  | .force => { r with force := v &&& forceMask }
  | .opa => { r with opa := v }
  | .opb => { r with opb := v }
  | .opc => { r with opc := v }
  | .bin k => { r with bin := r.bin.set k v }
  | .pixLo i => { r with pixLo := r.pixLo.set i v, wrLo := r.wrLo.set i true }
  | .pixHi i => { r with pixHi := r.pixHi.set i v, wrHi := r.wrHi.set i true }
  | .imp i => { r with imp := r.imp.set i (v &&& impMask) }
  | .cmd => r
  | .status => r
  | .res => r
  | .rinfo => r
  | .rerrLo => r
  | .rerrHi => r
  | .out _ => r

/-! ### Bus accesses -/

/-- The 32-bit aligned accesses, the only ones CORE defines (20_memory.md R83). -/
def accessDefined (off bytes : Nat) : Bool := bytes == 4 && off % 4 == 0

/-- An aligned bus write while IDLE takes effect at once (70_reset_and_hazards.md R462): CMD starts a command, an
unmapped offset ignores it (10_state.md R50). -/
def State.writeIdle (off : Nat) (v : Word) (s : State) : State :=
  match regAt off with
  | some .cmd => s.accept v
  | some r => { s with rw := s.rw.write v r }
  | none => s

/-- An aligned bus write while BUSY is ignored and sets WIGN (70_reset_and_hazards.md R460, log 10). -/
def State.writeBusy (s : State) : State := { s with status := statusIgnoredWrite s.status }

/-- An aligned bus write. -/
def State.busWrite (off : Nat) (v : Word) (s : State) : State :=
  match s.seq with
  | .idle => s.writeIdle off v
  | .busy _ => s.writeBusy

/-- The value an aligned bus read returns: a register, 0 at an unmapped offset (10_state.md R50), and a free draw for
a PIX word that nothing has written (70_reset_and_hazards.md R450, logs 2 and 3). -/
def State.busValue (s : State) (off : Nat) : Word :=
  match regAt off with
  | some r => if s.unwritten r then Config.freePixWord s.params.coreBase s.draws else s.regValue r
  | none => 0

/-- Is a read at this offset a free draw? -/
def State.readDraws (s : State) (off : Nat) : Bool :=
  match regAt off with
  | some r => s.unwritten r
  | none => false

/-- An aligned bus read (20_memory.md R84: no side effect on CORE): the host gets the value. -/
def State.busRead (off : Nat) (s : State) : State :=
  { s with
    reads := (off, s.busValue off) :: s.reads
    draws := if s.readDraws off then s.draws + 1 else s.draws }

/-- One step of time for a running command (70_reset_and_hazards.md R470, log 4). -/
def State.tick (s : State) : State :=
  match s.seq with
  | .idle => s
  | .busy r => { s with seq := .busy { r with left := r.left - 1 } }

/-- Hardware reset (70_reset_and_hazards.md R450, R451): every piece of CORE's state takes its reset value and a
running command is abandoned. What is not CORE's stays: the parameters, the inputs still to come, the reads, the
oracle's answer, the draws (log 19). -/
def State.hardReset (s : State) : State :=
  { State.reset with params := s.params, host := s.host, resetIn := s.resetIn, reads := s.reads, refOut := s.refOut, draws := s.draws }

end Sys2Proof.Machine
end

