-- ==== Sys2Proof/Machine/Partition.lean ====
section
/-! DEFINITION. The partition-shape look-up table and the anchor tables (42_partition_lut.md), constants that
nothing writes (10_state.md R48). -/

namespace Sys2Proof.Machine

/-- P2 (42_partition_lut.md R200): bit i set means pixel i is in region 1. -/
def p2Table : List Nat :=
  [0xCCCC, 0x8888, 0xEEEE, 0xECC8, 0xC880, 0xFEEC, 0xFEC8, 0xEC80,
   0xC800, 0xFFEC, 0xFE80, 0xE800, 0xFFE8, 0xFF00, 0xFFF0, 0xF000,
   0xF710, 0x008E, 0x7100, 0x08CE, 0x008C, 0x7310, 0x3100, 0x8CCE,
   0x088C, 0x3110, 0x6666, 0x366C, 0x17E8, 0x0FF0, 0x718E, 0x399C,
   0xAAAA, 0xF0F0, 0x5A5A, 0x33CC, 0x3C3C, 0x55AA, 0x9696, 0xA55A,
   0x73CE, 0x13C8, 0x324C, 0x3BDC, 0x6996, 0xC33C, 0x9966, 0x0660,
   0x0272, 0x04E4, 0x4E40, 0x2720, 0xC936, 0x936C, 0x39C6, 0x639C,
   0x9336, 0x9CC6, 0x817E, 0xE718, 0xCCF0, 0x0FCC, 0x7744, 0xEE22]

/-- P3 (42_partition_lut.md R201), shapes 0 to 31: sixteen hexadecimal digits, pixel 0 first (the top digit). -/
def p3TableLow : List Nat :=
  [0x0011001102212222, 0x0001001122112221, 0x0000200122112211, 0x0222002200110111,
   0x0000000011221122, 0x0011001100220022, 0x0022002211111111, 0x0011001122112211,
   0x0000000011112222, 0x0000111111112222, 0x0000111122222222, 0x0012001200120012,
   0x0112011201120112, 0x0122012201220122, 0x0011011211221222, 0x0011200122002220,
   0x0001001101121122, 0x0111001120012200, 0x0000112211221122, 0x0022002200221111,
   0x0111011102220222, 0x0001000122212221, 0x0000001101220122, 0x0000110022102210,
   0x0122012200110000, 0x0012001211222222, 0x0110122112210110, 0x0000011012211221,
   0x0022110211020022, 0x0110011020022222, 0x0011012201220011, 0x0000200022112221]

/-- P3 (42_partition_lut.md R201), shapes 32 to 63. -/
def p3TableHigh : List Nat :=
  [0x0000000211221222, 0x0222002200120011, 0x0011001200220222, 0x0120012001200120,
   0x0000111122220000, 0x0120120120120120, 0x0120201212010120, 0x0011220011220011,
   0x0011112222000011, 0x0101010122222222, 0x0000000021212121, 0x0022112200221122,
   0x0022001100220011, 0x0220122102201221, 0x0101222222220101, 0x0000212121212121,
   0x0101010101012222, 0x0222011102220111, 0x0002111200021112, 0x0000211221122112,
   0x0222011101110222, 0x0002111211120002, 0x0110011001102222, 0x0000000021122112,
   0x0110011022222222, 0x0022001100110022, 0x0022112211220022, 0x0000000000002112,
   0x0002000100020001, 0x0222122202221222, 0x0101222222222222, 0x0111201122012220]

/-- P3 (42_partition_lut.md R201). -/
def p3Table : List Nat := p3TableLow ++ p3TableHigh

/-- A2, the anchor of region 1 of 2 (42_partition_lut.md R202). -/
def a2Table : List Nat :=
  [15, 15, 15, 15, 15, 15, 15, 15, 15, 15, 15, 15, 15, 15, 15, 15,
   15, 2, 8, 2, 2, 8, 8, 15, 2, 8, 2, 2, 8, 8, 2, 2,
   15, 15, 6, 8, 2, 8, 15, 15, 2, 8, 2, 2, 2, 15, 15, 6,
   6, 2, 6, 8, 15, 15, 2, 2, 15, 15, 15, 15, 15, 2, 2, 15]

/-- A3a, the anchor of region 1 of 3 (42_partition_lut.md R202). -/
def a3aTable : List Nat :=
  [3, 3, 15, 15, 8, 3, 15, 15, 8, 8, 6, 6, 6, 5, 3, 3,
   3, 3, 8, 15, 3, 3, 6, 10, 5, 8, 8, 6, 8, 5, 15, 15,
   8, 15, 3, 5, 6, 10, 8, 15, 15, 3, 15, 5, 15, 15, 15, 15,
   3, 15, 5, 5, 5, 8, 5, 10, 5, 10, 8, 13, 15, 12, 3, 3]

/-- A3b, the anchor of region 2 of 3 (42_partition_lut.md R202). -/
def a3bTable : List Nat :=
  [15, 8, 8, 3, 15, 15, 3, 8, 15, 15, 15, 15, 15, 15, 15, 8,
   15, 8, 15, 3, 15, 8, 15, 8, 3, 15, 6, 10, 15, 15, 10, 8,
   15, 3, 15, 10, 10, 8, 9, 10, 6, 15, 8, 15, 3, 6, 6, 8,
   15, 3, 15, 15, 15, 15, 15, 15, 15, 15, 15, 15, 3, 15, 15, 8]

/-- `region(ns, s, i)` of 42_partition_lut.md R200, R201: the region of pixel `i` in shape `s` of `ns` regions. -/
def region (ns s i : Nat) : Nat :=
  if ns = 2 then bitsOf (p2Table.getD s 0) i 1
  else if ns = 3 then bitsOf (p3Table.getD s 0) (4 * (15 - i)) 4
  else 0

/-- `anchors(ns, s)` of 42_partition_lut.md R202: the anchor pixel of each region. -/
def anchors (ns s : Nat) : List Nat :=
  if ns = 2 then [0, a2Table.getD s 0]
  else if ns = 3 then [0, a3aTable.getD s 0, a3bTable.getD s 0]
  else [0]

/-- The domain of SHAPE and ANCHOR (42_partition_lut.md R206): `false` is BAD_SHAPE. -/
def shapeInTable (ns s : Nat) : Bool :=
  if ns = 0 then false else if ns = 1 then s == 0 else decide (s ≤ 63)

/-- The word SHAPE answers (42_partition_lut.md R206): two bits of region per pixel. -/
def shapeWord (ns s : Nat) : Nat := (pixels.map fun i => region ns s i * 2 ^ (2 * i)).sum

/-- The word ANCHOR answers (42_partition_lut.md R207): a nibble per region. -/
def anchorWord (ns s : Nat) : Nat := packFields ((anchors ns s).map fun a => (4, a))

end Sys2Proof.Machine
end

