-- ==== Sys2Proof/Machine/BlockTables.lean ====
section
/-! DEFINITION. The block mode tables: the BC7 mode table (48_packer_bc7.md R360), the BC6H mode table
(49_packer_bc6h.md R390) and the BC6H header layouts (R392). Constants that nothing writes (10_state.md R48). -/

namespace Sys2Proof.Machine

/-- One row of the BC7 mode table (48_packer_bc7.md R360). `ab` is 0 where the mode has no alpha bits of its own. -/
structure Bc7Mode where
  ns : Nat
  pb : Nat
  rb : Nat
  isb : Nat
  cb : Nat
  ab : Nat
  epb : Nat
  spb : Nat
  ib : Nat
  ib2 : Nat
deriving DecidableEq, Repr, Inhabited

/-- The BC7 mode table, modes 0 to 7 (48_packer_bc7.md R360; the columns in its order). -/
def bc7Table : List Bc7Mode :=
  [⟨3, 4, 0, 0, 4, 0, 1, 0, 3, 0⟩,
   ⟨2, 6, 0, 0, 6, 0, 0, 1, 3, 0⟩,
   ⟨3, 6, 0, 0, 5, 0, 0, 0, 2, 0⟩,
   ⟨2, 6, 0, 0, 7, 0, 1, 0, 2, 0⟩,
   ⟨1, 0, 2, 1, 5, 6, 0, 0, 2, 3⟩,
   ⟨1, 0, 2, 0, 7, 8, 0, 0, 2, 2⟩,
   ⟨1, 0, 0, 0, 7, 7, 1, 0, 4, 0⟩,
   ⟨2, 6, 0, 0, 5, 5, 1, 0, 2, 0⟩]

/-- The row of BC7 mode `m`. -/
def bc7Mode (m : Nat) : Bc7Mode := bc7Table.getD m default

/-- Do the modes' alpha endpoints stand apart from the colour endpoints (modes 4 and 5, 48_packer_bc7.md R360)? -/
def bc7SeparateAlpha (m : Nat) : Bool := m == 4 || m == 5

/-- Is alpha a fourth channel of the colour endpoints (modes 6 and 7, 48_packer_bc7.md R360)? -/
def bc7FourChannels (m : Nat) : Bool := m == 6 || m == 7

/-- The number of channels of a mode's colour endpoints (48_packer_bc7.md R361 item 4). -/
def bc7Channels (m : Nat) : Nat := if bc7FourChannels m then 4 else 3

/-- How many shapes a BC7 mode may take (42_partition_lut.md R205): two to the number of partition bits. -/
def bc7Shapes (m : Nat) : Nat := 2 ^ (bc7Mode m).pb

/-- The number of colour codes of a block: one per channel, region and endpoint (48_packer_bc7.md R361 item 4). -/
def bc7CodeCount (m : Nat) : Nat := bc7Channels m * (bc7Mode m).ns * 2

/-- The number of p-bits of a block (48_packer_bc7.md R361 item 6). -/
def bc7PbitCount (m : Nat) : Nat := (bc7Mode m).epb * (bc7Mode m).ns * 2 + (bc7Mode m).spb * (bc7Mode m).ns

/-- The widths of the first index array: one bit less at each anchor (48_packer_bc7.md R361 item 7, R365). -/
def bc7Index1Widths (m shape : Nat) : List Nat :=
  pixels.map fun i => if (anchors (bc7Mode m).ns shape).contains i then (bc7Mode m).ib - 1 else (bc7Mode m).ib

/-- The widths of the second index array, one bit less at pixel 0; none in the modes without one
(48_packer_bc7.md R361 item 8). -/
def bc7Index2Widths (m : Nat) : List Nat :=
  if (bc7Mode m).ib2 = 0 then [] else pixels.map fun i => if i = 0 then (bc7Mode m).ib2 - 1 else (bc7Mode m).ib2

/-- The widths of the separate alpha endpoints (48_packer_bc7.md R361 item 5). -/
def bc7AlphaWidths (m : Nat) : List Nat := if bc7SeparateAlpha m then [(bc7Mode m).ab, (bc7Mode m).ab] else []

/-- A field of a BC6H block's header (49_packer_bc6h.md R391): the mode field `m`, the shape `d`, and the channels
r, g, b of the endpoints w, x, y, z. -/
inductive Field6 where
  | m | d
  | rw | gw | bw | rx | gx | bx | ry | gy | by_ | rz | gz | bz
deriving DecidableEq, Repr

/-- A piece of a header layout: the bits `hi` down to `lo` of field `f`, `f[lo]` at the lowest position
(49_packer_bc6h.md R392). -/
structure Seg6 where
  f : Field6
  hi : Nat
  lo : Nat
deriving DecidableEq, Repr

/-- The number of block bits a piece takes. -/
def Seg6.width (g : Seg6) : Nat := g.hi + 1 - g.lo

/-- One row of the BC6H mode table (49_packer_bc6h.md R390). The delta widths are 0 in an untransformed mode. -/
structure Bc6hMode where
  code : Nat
  ns : Nat
  transformed : Bool
  p : Nat
  dbR : Nat
  dbG : Nat
  dbB : Nat
  ib : Nat
  headerLen : Nat
deriving DecidableEq, Repr, Inhabited

/-- The BC6H mode table, modes 1 to 14 (49_packer_bc6h.md R390; the columns in its order). -/
def bc6hTable : List Bc6hMode :=
  [⟨0x00, 2, true, 10, 5, 5, 5, 3, 82⟩,
   ⟨0x01, 2, true, 7, 6, 6, 6, 3, 82⟩,
   ⟨0x02, 2, true, 11, 5, 4, 4, 3, 82⟩,
   ⟨0x06, 2, true, 11, 4, 5, 4, 3, 82⟩,
   ⟨0x0A, 2, true, 11, 4, 4, 5, 3, 82⟩,
   ⟨0x0E, 2, true, 9, 5, 5, 5, 3, 82⟩,
   ⟨0x12, 2, true, 8, 6, 5, 5, 3, 82⟩,
   ⟨0x16, 2, true, 8, 5, 6, 5, 3, 82⟩,
   ⟨0x1A, 2, true, 8, 5, 5, 6, 3, 82⟩,
   ⟨0x1E, 2, false, 6, 0, 0, 0, 3, 82⟩,
   ⟨0x03, 1, false, 10, 0, 0, 0, 4, 65⟩,
   ⟨0x07, 1, true, 11, 9, 9, 9, 4, 65⟩,
   ⟨0x0B, 1, true, 12, 8, 8, 8, 4, 65⟩,
   ⟨0x0F, 1, true, 16, 4, 4, 4, 4, 65⟩]

/-- The row of BC6H mode `m` (1 to 14). -/
def bc6hMode (m : Nat) : Bc6hMode := bc6hTable.getD (m - 1) default

/-- The width of the delta field of channel `ch` (49_packer_bc6h.md R390). -/
def bc6hDeltaBits (m ch : Nat) : Nat :=
  if ch = 0 then (bc6hMode m).dbR else if ch = 1 then (bc6hMode m).dbG else (bc6hMode m).dbB

/-- The shapes a BC6H mode may take (42_partition_lut.md R205): 32 in two-region modes, 1 in one-region modes. -/
def bc6hShapes (m : Nat) : Nat := if (bc6hMode m).ns = 2 then 32 else 1

/-- The widths of the index fields: one bit less at each anchor (49_packer_bc6h.md R393). -/
def bc6hIndexWidths (m shape : Nat) : List Nat :=
  pixels.map fun i => if (anchors (bc6hMode m).ns shape).contains i then (bc6hMode m).ib - 1 else (bc6hMode m).ib

/-- The header layout of BC6H mode 1, ascending block positions (49_packer_bc6h.md R392). -/
def bc6hLayout1 : List Seg6 :=
  [⟨.m, 1, 0⟩, ⟨.gy, 4, 4⟩, ⟨.by_, 4, 4⟩, ⟨.bz, 4, 4⟩, ⟨.rw, 9, 0⟩, ⟨.gw, 9, 0⟩, ⟨.bw, 9, 0⟩,
   ⟨.rx, 4, 0⟩, ⟨.gz, 4, 4⟩, ⟨.gy, 3, 0⟩, ⟨.gx, 4, 0⟩, ⟨.bz, 0, 0⟩, ⟨.gz, 3, 0⟩, ⟨.bx, 4, 0⟩,
   ⟨.bz, 1, 1⟩, ⟨.by_, 3, 0⟩, ⟨.ry, 4, 0⟩, ⟨.bz, 2, 2⟩, ⟨.rz, 4, 0⟩, ⟨.bz, 3, 3⟩, ⟨.d, 4, 0⟩]

/-- The header layout of BC6H mode 2, ascending block positions (49_packer_bc6h.md R392). -/
def bc6hLayout2 : List Seg6 :=
  [⟨.m, 1, 0⟩, ⟨.gy, 5, 5⟩, ⟨.gz, 5, 4⟩, ⟨.rw, 6, 0⟩, ⟨.bz, 1, 0⟩, ⟨.by_, 4, 4⟩, ⟨.gw, 6, 0⟩,
   ⟨.by_, 5, 5⟩, ⟨.bz, 2, 2⟩, ⟨.gy, 4, 4⟩, ⟨.bw, 6, 0⟩, ⟨.bz, 3, 3⟩, ⟨.bz, 5, 5⟩, ⟨.bz, 4, 4⟩,
   ⟨.rx, 5, 0⟩, ⟨.gy, 3, 0⟩, ⟨.gx, 5, 0⟩, ⟨.gz, 3, 0⟩, ⟨.bx, 5, 0⟩, ⟨.by_, 3, 0⟩, ⟨.ry, 5, 0⟩,
   ⟨.rz, 5, 0⟩, ⟨.d, 4, 0⟩]

/-- The header layout of BC6H mode 3, ascending block positions (49_packer_bc6h.md R392). -/
def bc6hLayout3 : List Seg6 :=
  [⟨.m, 4, 0⟩, ⟨.rw, 9, 0⟩, ⟨.gw, 9, 0⟩, ⟨.bw, 9, 0⟩, ⟨.rx, 4, 0⟩, ⟨.rw, 10, 10⟩, ⟨.gy, 3, 0⟩,
   ⟨.gx, 3, 0⟩, ⟨.gw, 10, 10⟩, ⟨.bz, 0, 0⟩, ⟨.gz, 3, 0⟩, ⟨.bx, 3, 0⟩, ⟨.bw, 10, 10⟩, ⟨.bz, 1, 1⟩,
   ⟨.by_, 3, 0⟩, ⟨.ry, 4, 0⟩, ⟨.bz, 2, 2⟩, ⟨.rz, 4, 0⟩, ⟨.bz, 3, 3⟩, ⟨.d, 4, 0⟩]

/-- The header layout of BC6H mode 4, ascending block positions (49_packer_bc6h.md R392). -/
def bc6hLayout4 : List Seg6 :=
  [⟨.m, 4, 0⟩, ⟨.rw, 9, 0⟩, ⟨.gw, 9, 0⟩, ⟨.bw, 9, 0⟩, ⟨.rx, 3, 0⟩, ⟨.rw, 10, 10⟩, ⟨.gz, 4, 4⟩,
   ⟨.gy, 3, 0⟩, ⟨.gx, 4, 0⟩, ⟨.gw, 10, 10⟩, ⟨.gz, 3, 0⟩, ⟨.bx, 3, 0⟩, ⟨.bw, 10, 10⟩, ⟨.bz, 1, 1⟩,
   ⟨.by_, 3, 0⟩, ⟨.ry, 3, 0⟩, ⟨.bz, 0, 0⟩, ⟨.bz, 2, 2⟩, ⟨.rz, 3, 0⟩, ⟨.gy, 4, 4⟩, ⟨.bz, 3, 3⟩,
   ⟨.d, 4, 0⟩]

/-- The header layout of BC6H mode 5, ascending block positions (49_packer_bc6h.md R392). -/
def bc6hLayout5 : List Seg6 :=
  [⟨.m, 4, 0⟩, ⟨.rw, 9, 0⟩, ⟨.gw, 9, 0⟩, ⟨.bw, 9, 0⟩, ⟨.rx, 3, 0⟩, ⟨.rw, 10, 10⟩, ⟨.by_, 4, 4⟩,
   ⟨.gy, 3, 0⟩, ⟨.gx, 3, 0⟩, ⟨.gw, 10, 10⟩, ⟨.bz, 0, 0⟩, ⟨.gz, 3, 0⟩, ⟨.bx, 4, 0⟩, ⟨.bw, 10, 10⟩,
   ⟨.by_, 3, 0⟩, ⟨.ry, 3, 0⟩, ⟨.bz, 2, 1⟩, ⟨.rz, 3, 0⟩, ⟨.bz, 4, 4⟩, ⟨.bz, 3, 3⟩, ⟨.d, 4, 0⟩]

/-- The header layout of BC6H mode 6, ascending block positions (49_packer_bc6h.md R392). -/
def bc6hLayout6 : List Seg6 :=
  [⟨.m, 4, 0⟩, ⟨.rw, 8, 0⟩, ⟨.by_, 4, 4⟩, ⟨.gw, 8, 0⟩, ⟨.gy, 4, 4⟩, ⟨.bw, 8, 0⟩, ⟨.bz, 4, 4⟩,
   ⟨.rx, 4, 0⟩, ⟨.gz, 4, 4⟩, ⟨.gy, 3, 0⟩, ⟨.gx, 4, 0⟩, ⟨.bz, 0, 0⟩, ⟨.gz, 3, 0⟩, ⟨.bx, 4, 0⟩,
   ⟨.bz, 1, 1⟩, ⟨.by_, 3, 0⟩, ⟨.ry, 4, 0⟩, ⟨.bz, 2, 2⟩, ⟨.rz, 4, 0⟩, ⟨.bz, 3, 3⟩, ⟨.d, 4, 0⟩]

/-- The header layout of BC6H mode 7, ascending block positions (49_packer_bc6h.md R392). -/
def bc6hLayout7 : List Seg6 :=
  [⟨.m, 4, 0⟩, ⟨.rw, 7, 0⟩, ⟨.gz, 4, 4⟩, ⟨.by_, 4, 4⟩, ⟨.gw, 7, 0⟩, ⟨.bz, 2, 2⟩, ⟨.gy, 4, 4⟩,
   ⟨.bw, 7, 0⟩, ⟨.bz, 4, 3⟩, ⟨.rx, 5, 0⟩, ⟨.gy, 3, 0⟩, ⟨.gx, 4, 0⟩, ⟨.bz, 0, 0⟩, ⟨.gz, 3, 0⟩,
   ⟨.bx, 4, 0⟩, ⟨.bz, 1, 1⟩, ⟨.by_, 3, 0⟩, ⟨.ry, 5, 0⟩, ⟨.rz, 5, 0⟩, ⟨.d, 4, 0⟩]

/-- The header layout of BC6H mode 8, ascending block positions (49_packer_bc6h.md R392). -/
def bc6hLayout8 : List Seg6 :=
  [⟨.m, 4, 0⟩, ⟨.rw, 7, 0⟩, ⟨.bz, 0, 0⟩, ⟨.by_, 4, 4⟩, ⟨.gw, 7, 0⟩, ⟨.gy, 5, 5⟩, ⟨.gy, 4, 4⟩,
   ⟨.bw, 7, 0⟩, ⟨.gz, 5, 5⟩, ⟨.bz, 4, 4⟩, ⟨.rx, 4, 0⟩, ⟨.gz, 4, 4⟩, ⟨.gy, 3, 0⟩, ⟨.gx, 5, 0⟩,
   ⟨.gz, 3, 0⟩, ⟨.bx, 4, 0⟩, ⟨.bz, 1, 1⟩, ⟨.by_, 3, 0⟩, ⟨.ry, 4, 0⟩, ⟨.bz, 2, 2⟩, ⟨.rz, 4, 0⟩,
   ⟨.bz, 3, 3⟩, ⟨.d, 4, 0⟩]

/-- The header layout of BC6H mode 9, ascending block positions (49_packer_bc6h.md R392). -/
def bc6hLayout9 : List Seg6 :=
  [⟨.m, 4, 0⟩, ⟨.rw, 7, 0⟩, ⟨.bz, 1, 1⟩, ⟨.by_, 4, 4⟩, ⟨.gw, 7, 0⟩, ⟨.by_, 5, 5⟩, ⟨.gy, 4, 4⟩,
   ⟨.bw, 7, 0⟩, ⟨.bz, 5, 5⟩, ⟨.bz, 4, 4⟩, ⟨.rx, 4, 0⟩, ⟨.gz, 4, 4⟩, ⟨.gy, 3, 0⟩, ⟨.gx, 4, 0⟩,
   ⟨.bz, 0, 0⟩, ⟨.gz, 3, 0⟩, ⟨.bx, 5, 0⟩, ⟨.by_, 3, 0⟩, ⟨.ry, 4, 0⟩, ⟨.bz, 2, 2⟩, ⟨.rz, 4, 0⟩,
   ⟨.bz, 3, 3⟩, ⟨.d, 4, 0⟩]

/-- The header layout of BC6H mode 10, ascending block positions (49_packer_bc6h.md R392). -/
def bc6hLayout10 : List Seg6 :=
  [⟨.m, 4, 0⟩, ⟨.rw, 5, 0⟩, ⟨.gz, 4, 4⟩, ⟨.bz, 1, 0⟩, ⟨.by_, 4, 4⟩, ⟨.gw, 5, 0⟩, ⟨.gy, 5, 5⟩,
   ⟨.by_, 5, 5⟩, ⟨.bz, 2, 2⟩, ⟨.gy, 4, 4⟩, ⟨.bw, 5, 0⟩, ⟨.gz, 5, 5⟩, ⟨.bz, 3, 3⟩, ⟨.bz, 5, 5⟩,
   ⟨.bz, 4, 4⟩, ⟨.rx, 5, 0⟩, ⟨.gy, 3, 0⟩, ⟨.gx, 5, 0⟩, ⟨.gz, 3, 0⟩, ⟨.bx, 5, 0⟩, ⟨.by_, 3, 0⟩,
   ⟨.ry, 5, 0⟩, ⟨.rz, 5, 0⟩, ⟨.d, 4, 0⟩]

/-- The header layout of BC6H mode 11, ascending block positions (49_packer_bc6h.md R392). -/
def bc6hLayout11 : List Seg6 :=
  [⟨.m, 4, 0⟩, ⟨.rw, 9, 0⟩, ⟨.gw, 9, 0⟩, ⟨.bw, 9, 0⟩, ⟨.rx, 9, 0⟩, ⟨.gx, 9, 0⟩, ⟨.bx, 9, 0⟩]

/-- The header layout of BC6H mode 12, ascending block positions (49_packer_bc6h.md R392). -/
def bc6hLayout12 : List Seg6 :=
  [⟨.m, 4, 0⟩, ⟨.rw, 9, 0⟩, ⟨.gw, 9, 0⟩, ⟨.bw, 9, 0⟩, ⟨.rx, 8, 0⟩, ⟨.rw, 10, 10⟩, ⟨.gx, 8, 0⟩,
   ⟨.gw, 10, 10⟩, ⟨.bx, 8, 0⟩, ⟨.bw, 10, 10⟩]

/-- The header layout of BC6H mode 13, ascending block positions (49_packer_bc6h.md R392). -/
def bc6hLayout13 : List Seg6 :=
  [⟨.m, 4, 0⟩, ⟨.rw, 9, 0⟩, ⟨.gw, 9, 0⟩, ⟨.bw, 9, 0⟩, ⟨.rx, 7, 0⟩, ⟨.rw, 11, 11⟩, ⟨.rw, 10, 10⟩,
   ⟨.gx, 7, 0⟩, ⟨.gw, 11, 11⟩, ⟨.gw, 10, 10⟩, ⟨.bx, 7, 0⟩, ⟨.bw, 11, 11⟩, ⟨.bw, 10, 10⟩]

/-- The header layout of BC6H mode 14, ascending block positions (49_packer_bc6h.md R392). -/
def bc6hLayout14 : List Seg6 :=
  [⟨.m, 4, 0⟩, ⟨.rw, 9, 0⟩, ⟨.gw, 9, 0⟩, ⟨.bw, 9, 0⟩, ⟨.rx, 3, 0⟩, ⟨.rw, 15, 15⟩, ⟨.rw, 14, 14⟩,
   ⟨.rw, 13, 13⟩, ⟨.rw, 12, 12⟩, ⟨.rw, 11, 11⟩, ⟨.rw, 10, 10⟩, ⟨.gx, 3, 0⟩, ⟨.gw, 15, 15⟩, ⟨.gw, 14, 14⟩,
   ⟨.gw, 13, 13⟩, ⟨.gw, 12, 12⟩, ⟨.gw, 11, 11⟩, ⟨.gw, 10, 10⟩, ⟨.bx, 3, 0⟩, ⟨.bw, 15, 15⟩, ⟨.bw, 14, 14⟩,
   ⟨.bw, 13, 13⟩, ⟨.bw, 12, 12⟩, ⟨.bw, 11, 11⟩, ⟨.bw, 10, 10⟩]

/-- The header layouts, modes 1 to 14 (49_packer_bc6h.md R392). -/
def bc6hLayouts : List (List Seg6) :=
  [bc6hLayout1, bc6hLayout2, bc6hLayout3, bc6hLayout4, bc6hLayout5, bc6hLayout6, bc6hLayout7,
   bc6hLayout8, bc6hLayout9, bc6hLayout10, bc6hLayout11, bc6hLayout12, bc6hLayout13, bc6hLayout14]

/-- The header layout of BC6H mode `m` (1 to 14). -/
def bc6hLayout (m : Nat) : List Seg6 := bc6hLayouts.getD (m - 1) []

end Sys2Proof.Machine
end

