-- ==== Sys2Proof/Machine/HalfFloat.lean ====
section
/-! DEFINITION. The half-float converter (40_half_float.md). A working value is the magnitude bits of a half read as an
integer, with a sign under the signed format (R160). -/

namespace Sys2Proof.Machine

/-- F16MAX, the bit pattern of the largest finite half (40_half_float.md R160, 00_scope.md R7). -/
def f16Max : Int := 0x7BFF

/-- The magnitude of a half pattern, at most F16MAX. -/
def halfMagnitude (h : Nat) : Int := min (bitsOf h 0 15 : Int) f16Max

/-- `H2W_u` (40_half_float.md R161). -/
def h2wU (h : Nat) : Int := if bitsOf h 15 1 = 1 then 0 else halfMagnitude h

/-- `H2W_s` (40_half_float.md R162). -/
def h2wS (h : Nat) : Int := if bitsOf h 15 1 = 1 then -halfMagnitude h else halfMagnitude h

/-- H2W under the numeric format. -/
def h2wValue (signed : Bool) (h : Nat) : Int := if signed then h2wS h else h2wU h

/-- `W2H_u` (40_half_float.md R163). -/
def w2hU (v : Int) : Nat := (clampInt v 0 f16Max).toNat

/-- `W2H_s` (40_half_float.md R163): the sign bit and the magnitude; -0 is never produced. -/
def w2hS (v : Int) : Nat :=
  let c := clampInt v (-f16Max) f16Max
  if c < 0 then 0x8000 + (-c).toNat else c.toNat

/-- W2H under the numeric format. -/
def w2hValue (signed : Bool) (v : Int) : Nat := if signed then w2hS v else w2hU v

end Sys2Proof.Machine
end

