-- ==== Sys2Proof/Machine/Quantizer.lean ====
section
/-! DEFINITION. The quantizer (44_quantizer.md): BC6H quantize, unquantize, finish and deltas, BC7 quantize, expansion
and the p-bit choice. Endpoint channels are rationals, codes integers. -/

namespace Sys2Proof.Machine

/-- The legal BC6H precisions (44_quantizer.md R245). -/
def bc6hPrecs : List Nat := [6, 7, 8, 9, 10, 11, 12, 16]

/-- The bias term of the BC6H quantizers for code width `p` (44_quantizer.md R240, R241). -/
def q6Bias (p : Nat) : Int := if p > 10 then 2 ^ (p - 1) - 1 else 0

/-- `q6_u` (44_quantizer.md R240). -/
def q6U (v : Rat) (p : Nat) : Int :=
  let r := roundHalfUp (clampRat v 0 f16Max)
  (r * 2 ^ p + q6Bias p) / (f16Max + 1)

/-- `q6_s` (44_quantizer.md R241). -/
def q6S (v : Rat) (p : Nat) : Int :=
  let r := roundHalfUp (clampRat v (-f16Max) f16Max)
  let q := (r.natAbs * 2 ^ (p - 1) + q6Bias p) / (f16Max + 1)
  if r < 0 then -q else q

/-- BC6H quantize under the numeric format. -/
def q6 (signed : Bool) (v : Rat) (p : Nat) : Int := if signed then q6S v p else q6U v p

/-- `uq6_u` (44_quantizer.md R242). -/
def uq6U (q : Int) (p : Nat) : Int :=
  if p ≥ 15 then q
  else if q = 0 then 0
  else if q = 2 ^ p - 1 then 0xFFFF
  else (q * 2 ^ 16 + 0x8000) / 2 ^ p

/-- `uq6_s` (44_quantizer.md R243). -/
def uq6S (q : Int) (p : Nat) : Int :=
  if p ≥ 16 then q
  else
    let m : Int := q.natAbs
    let u : Int :=
      if m = 0 then 0
      else if m ≥ 2 ^ (p - 1) - 1 then 0x7FFF
      else (m * 2 ^ 15 + 0x4000) / 2 ^ (p - 1)
    if q < 0 then -u else u

/-- BC6H unquantize under the numeric format. -/
def uq6 (signed : Bool) (q : Int) (p : Nat) : Int := if signed then uq6S q p else uq6U q p

/-- `fin6_u` (44_quantizer.md R244): the factor 31/64. -/
def fin6U (c : Int) : Int := c * 31 / 2 ^ 6

/-- `fin6_s` (44_quantizer.md R244): the factor 31/32, rounding toward zero. -/
def fin6S (c : Int) : Int := if c < 0 then -(-c * 31 / 2 ^ 5) else c * 31 / 2 ^ 5

/-- Finish under the numeric format. -/
def fin6 (signed : Bool) (c : Int) : Int := if signed then fin6S c else fin6U c

/-- The codes a BC6H endpoint field of precision `p` can hold (44_quantizer.md R242, R243, R251). -/
def code6InRange (signed : Bool) (q : Int) (p : Nat) : Bool :=
  if signed then decide (-2 ^ (p - 1) ≤ q ∧ q < 2 ^ (p - 1)) else decide (0 ≤ q ∧ q < 2 ^ p)

/-- The interpolated values FINISH6 takes (44_quantizer.md R252). -/
def finishInRange (signed : Bool) (c : Int) : Bool :=
  if signed then decide (-32768 ≤ c ∧ c ≤ 32767) else decide (0 ≤ c ∧ c ≤ 65535)

/-- `fits(d, db)` (44_quantizer.md R248). -/
def deltaFits (d : Int) (db : Nat) : Bool := decide (-2 ^ (db - 1) ≤ d ∧ d < 2 ^ (db - 1))

/-- `stored(d, db) = d mod 2^db` (44_quantizer.md R248). -/
def deltaStored (d : Int) (db : Nat) : Nat := (d % 2 ^ db).toNat

/-- `expand(x, N)` (44_quantizer.md R253): replicate the top bits below the value. -/
def expand (x N : Nat) : Nat := if N = 8 then x else (x <<< (8 - N)) ||| (x >>> (2 * N - 8))

/-- `recon(c, n, P)` (44_quantizer.md R255): the p-bit appended below the code, then expanded. -/
def recon (c n P : Nat) : Nat := expand ((c <<< 1) ||| P) (n + 1)

/-- `q7(v, n)` (44_quantizer.md R254): nearest by reconstructed value, the lowest code on a tie. -/
def q7 (v : Rat) (n : Nat) : Nat :=
  let x := clampRat v 0 255
  argMinRat ((List.range (2 ^ n)).map fun c => absRat ((expand c n : Rat) - x))

/-- `q7p(v, n, P)` (44_quantizer.md R255). -/
def q7p (v : Rat) (n P : Nat) : Nat :=
  let x := clampRat v 0 255
  argMinRat ((List.range (2 ^ n)).map fun c => absRat ((recon c n P : Rat) - x))

/-- `err_P` of an endpoint (44_quantizer.md R256): the exact unweighted squared error of its codes for p-bit `P`. -/
def pbitError (e : List Rat) (n P : Nat) : Rat :=
  (e.map fun v => ((recon (q7p v n P) n P : Rat) - clampRat v 0 255) ^ 2).sum

/-- The codes of an endpoint for p-bit `P`. -/
def pbitCodes (e : List Rat) (n P : Nat) : List Int := e.map fun v => (q7p v n P : Int)

/-- The p-bit of one endpoint (44_quantizer.md R256). -/
def endpointPbit (e : List Rat) (n : Nat) : Nat := if pbitError e n 1 < pbitError e n 0 then 1 else 0

/-- The p-bit a region's two endpoints share (44_quantizer.md R257). -/
def sharedPbit (a b : List Rat) (n : Nat) : Nat :=
  if pbitError a n 1 + pbitError b n 1 < pbitError a n 0 + pbitError b n 0 then 1 else 0

end Sys2Proof.Machine
end

