-- ==== Sys2Proof/Machine/Palette.lean ====
section
/-! DEFINITION. The interpolation-weight tables, the fixed-point interpolation and the palettes (45_palette.md). -/

namespace Sys2Proof.Machine

/-- W_2 (45_palette.md R280). -/
def weights2 : List Nat := [0, 21, 43, 64]

/-- W_3 (45_palette.md R280). -/
def weights3 : List Nat := [0, 9, 18, 27, 37, 46, 55, 64]

/-- W_4 (45_palette.md R280). -/
def weights4 : List Nat := [0, 4, 9, 13, 17, 21, 26, 30, 34, 38, 43, 47, 51, 55, 60, 64]

/-- The weight table for `b` index bits. -/
def weightTable (b : Nat) : List Nat :=
  if b = 2 then weights2 else if b = 3 then weights3 else if b = 4 then weights4 else []

/-- `W_b[j]` (45_palette.md R280). -/
def weight (b j : Nat) : Nat := (weightTable b).getD j 0

/-- The index widths that have a weight table (45_palette.md R284). -/
def indexBitsLegal (b : Nat) : Bool := b == 2 || b == 3 || b == 4

/-- `lerp(e0, e1, w)`, the shift a floor (45_palette.md R281). -/
def lerp (e0 e1 : Int) (w : Nat) : Int := (e0 * (64 - w) + e1 * w + 32) / 2 ^ 6

/-- The reconstructed channels of an endpoint (45_palette.md R282, 48_packer_bc7.md R370). -/
def recon7 (md : Bc7Mode) (codes : List Int) (P : Nat) : List Int :=
  codes.map fun c => if md.epb = 1 || md.spb = 1 then (recon c.toNat md.cb P : Int) else (expand c.toNat md.cb : Int)

/-- A BC7 palette with `b` index bits between two reconstructed endpoints (45_palette.md R282). -/
def palette7 (b : Nat) (eA eB : List Int) : List (List Int) :=
  (List.range (2 ^ b)).map fun j => List.zipWith (fun x y => lerp x y (weight b j)) eA eB

/-- A BC6H palette with `b` index bits of a pair of codes of precision `p` (45_palette.md R283): finish after the
interpolation. -/
def palette6 (signed : Bool) (p b : Nat) (qA qB : List Int) : List (List Int) :=
  (List.range (2 ^ b)).map fun j =>
    List.zipWith (fun x y => fin6 signed (lerp (uq6 signed x p) (uq6 signed y p) (weight b j))) qA qB

end Sys2Proof.Machine
end

