-- ==== Sys2Proof/Machine/Tile.lean ====
section
/-! DEFINITION. The tile input of ENCODE (41_tile.md): valid slots, source vectors, alpha mode, channel weights,
importance map and region pixel sets. -/

namespace Sys2Proof.Machine

/-- Are the tile's dimensions legal (41_tile.md R180)? -/
def tileDimLegal (t : Word) : Bool :=
  decide (1 ≤ tileW t ∧ tileW t ≤ 4) && decide (1 ≤ tileH t ∧ tileH t ≤ 4)

/-- Is slot `i` valid (41_tile.md R180, 00_scope.md R12)? -/
def slotValid (t : Word) (i : Nat) : Bool := decide (i % 4 < tileW t) && decide (i / 4 < tileH t)

/-- Every valid slot is written (70_reset_and_hazards.md R463). -/
def tileWritten (r : RwRegs) : Bool := pixels.all fun i => !slotValid r.tiledim i || slotWritten r i

/-- The BC7 source vector of slot `i` (41_tile.md R181), with the alpha mode None applied (R183). -/
def sourceVector (r : RwRegs) (i : Nat) : List Int :=
  let s := (pixChannels r i).map fun c => (bitsOf c 0 8 : Int)
  if cfgAlpha r.cfg = 0 then s.set 3 255 else s

/-- The BC6H working vector of slot `i` (41_tile.md R182). -/
def workingVector (r : RwRegs) (i : Nat) : List Int :=
  ((pixChannels r i).take 3).map fun c => h2wValue (cfgSigned r.cfg) c

/-- The prepared vector V of slot `i` (41_tile.md R185). -/
def tileVector (r : RwRegs) (i : Nat) : List Int :=
  match cfgFormat r.cfg with
  | .bc7 => sourceVector r i
  | .bc6h => workingVector r i

/-- The channel weights of slot `i` (41_tile.md R184). -/
def channelWeights (r : RwRegs) (i : Nat) : List Nat :=
  match cfgFormat r.cfg with
  | .bc7 =>
    if cfgAlpha r.cfg = 1 then
      let a := ((sourceVector r i).getD 3 0).toNat
      [a ^ 2, a ^ 2, a ^ 2, 65025]
    else [1, 1, 1, 1]
  | .bc6h => [1, 1, 1]

/-- The grid neighbours of slot `i` inside the 4x4 grid (41_tile.md R185). -/
def neighbours (i : Nat) : List Nat :=
  (if i % 4 = 0 then [] else [i - 1]) ++ (if i % 4 = 3 then [] else [i + 1]) ++
  (if i / 4 = 0 then [] else [i - 4]) ++ (if i / 4 = 3 then [] else [i + 4])

/-- `match(i)` (41_tile.md R185): a valid neighbour has the same prepared vector. -/
def hasTwin (r : RwRegs) (i : Nat) : Bool :=
  (neighbours i).any fun n => slotValid r.tiledim n && tileVector r n == tileVector r i

/-- `imp_eff[i]` with the multiplier IMP_BOOST (41_tile.md R185). -/
def effectiveWeight (boost : Nat) (r : RwRegs) (i : Nat) : Nat :=
  impWeight r i * (if cfgImpMap r.cfg && hasTwin r i then boost else 1)

/-- The tile as the stages read it, one entry per slot (47_mode_selector.md R320 step 2). -/
structure Tile where
  valid : List Bool
  vec : List (List Int)
  cw : List (List Nat)
  imp : List Nat
deriving DecidableEq, Repr

/-- Prepare the tile from the latched registers and IMP_BOOST (47_mode_selector.md R320 step 2). -/
def prepareTile (boost : Nat) (r : RwRegs) : Tile where
  valid := pixels.map (slotValid r.tiledim)
  vec := pixels.map (tileVector r)
  cw := pixels.map (channelWeights r)
  imp := pixels.map (effectiveWeight boost r)

/-- `P_k(ns, s)` (41_tile.md R186): the valid pixels of region `k`, ascending. -/
def regionPixels (t : Tile) (ns s k : Nat) : List Nat :=
  pixels.filter fun i => t.valid.getD i false && region ns s i == k

/-- `rot(v, r)` (48_packer_bc7.md R367): swap channel r - 1 with channel 3, the identity for r = 0. -/
def rotate {α : Type} [Inhabited α] (v : List α) (r : Nat) : List α :=
  if r = 0 then v else (v.set (r - 1) (v.getD 3 default)).set 3 (v.getD (r - 1) default)

end Sys2Proof.Machine
end

