-- ==== Sys2Proof/Machine/RefDecoder.lean ====
section
/-! DEFINITION. The reference decoders, the test oracle of 00_scope.md R5: BC7 (48_packer_bc7.md R370) and BC6H
(49_packer_bc6h.md R396). -/

namespace Sys2Proof.Machine

/-- The stored colour code of channel `ch` of endpoint `e` (0 = A, 1 = B) of region `k` (48_packer_bc7.md R361). -/
def codeAt7 (m : Nat) (b : Block7) (k e ch : Nat) : Nat :=
  b.codes.getD ((ch * (bc7Mode m).ns + k) * 2 + e) 0

/-- The p-bit of endpoint `e` of region `k` (48_packer_bc7.md R361 item 6): its own, or its region's in mode 1. -/
def pbitAt7 (m : Nat) (b : Block7) (k e : Nat) : Nat :=
  if (bc7Mode m).epb = 1 then b.pbits.getD (2 * k + e) 0 else b.pbits.getD k 0

/-- `X[k][e][ch]` of decode7 (48_packer_bc7.md R370): a reconstructed endpoint channel. -/
def endpoint7 (m : Nat) (b : Block7) (k e ch : Nat) : Int :=
  let md := bc7Mode m
  if ch < bc7Channels m then
    if md.epb = 1 || md.spb = 1 then recon (codeAt7 m b k e ch) md.cb (pbitAt7 m b k e)
    else expand (codeAt7 m b k e ch) md.cb
  else if bc7SeparateAlpha m then expand (b.alphas.getD e 0) md.ab
  else 255

/-- Pixel `i` of decode7 (48_packer_bc7.md R370). -/
def pixel7 (m : Nat) (b : Block7) (i : Nat) : List Nat :=
  let md := bc7Mode m
  let k := region md.ns b.shape i
  let colour := if b.isb = 0 then (b.idx1.getD i 0, md.ib) else (b.idx2.getD i 0, md.ib2)
  let alpha :=
    if bc7SeparateAlpha m then (if b.isb = 0 then (b.idx2.getD i 0, md.ib2) else (b.idx1.getD i 0, md.ib))
    else colour
  let px := (List.range 4).map fun ch =>
    let sel := if ch = 3 then alpha else colour
    (lerp (endpoint7 m b k 0 ch) (endpoint7 m b k 1 ch) (weight sel.2 sel.1)).toNat
  rotate px b.rot

/-- decode7 on the fields of a block of mode `m` (48_packer_bc7.md R370): sixteen (R, G, B, A) vectors. -/
def decode7 (m : Nat) (b : Block7) : List (List Nat) := pixels.map (pixel7 m b)

/-- The endpoint W of decode6 (49_packer_bc6h.md R396). -/
def endpointW (signed : Bool) (m : Nat) (b : Block6) (ch : Nat) : Int :=
  if signed then sext (b.ends.getD ch 0) (bc6hMode m).p else b.ends.getD ch 0

/-- Channel `ch` of endpoint `e` (0 = w, 1 = x, 2 = y, 3 = z) of decode6 (49_packer_bc6h.md R396,
44_quantizer.md R248). -/
def endpoint6 (signed : Bool) (m : Nat) (b : Block6) (e ch : Nat) : Int :=
  let md := bc6hMode m
  if e = 0 then endpointW signed m b ch
  else
    let stored : Int := b.ends.getD (3 * e + ch) 0
    let v := if md.transformed then (endpointW signed m b ch + sext stored (bc6hDeltaBits m ch)) % 2 ^ md.p else stored
    if signed then sext v md.p else v

/-- Pixel `i` of decode6: three half patterns (49_packer_bc6h.md R396, R397). -/
def pixel6 (signed : Bool) (m : Nat) (b : Block6) (i : Nat) : List Nat :=
  let md := bc6hMode m
  let k := region md.ns b.shape i
  (List.range 3).map fun ch =>
    let u := uq6 signed (endpoint6 signed m b (2 * k) ch) md.p
    let v := uq6 signed (endpoint6 signed m b (2 * k + 1) ch) md.p
    w2hValue signed (fin6 signed (lerp u v (weight md.ib (b.idx.getD i 0))))

/-- decode6 on the fields of a block of mode `m` under a numeric format (49_packer_bc6h.md R396). -/
def decode6 (signed : Bool) (m : Nat) (b : Block6) : List (List Nat) := pixels.map (pixel6 signed m b)

end Sys2Proof.Machine
end

