-- ==== Sys2Proof/Machine/BlockRows.lean ====
section
/-! DEFINITION. The block rows of the opcode table: the reference decoder of the block's format reads the block
(48_packer_bc7.md R369 to R372, 49_packer_bc6h.md R396) and its answer stands in `refOut`. Nothing of CORE's own state
changes: the decoders are test oracles (60_exceptions.md R429). Log 7. -/

namespace Sys2Proof.Machine

/-- The reference decoder answers. -/
def State.answer (o : RefOut) (s : State) : State := { s with refOut := o }

/-- BC7_MODE0: the decoded tile of a block of mode 0 (48_packer_bc7.md R370). -/
def execBc7Mode0 (b : Block7) (s : State) : Outcome := .next (s.answer (.tile .bc7 0 (decode7 0 b)))

/-- BC7_MODE1: the decoded tile of a block of mode 1 (48_packer_bc7.md R370). -/
def execBc7Mode1 (b : Block7) (s : State) : Outcome := .next (s.answer (.tile .bc7 1 (decode7 1 b)))

/-- BC7_MODE2: the decoded tile of a block of mode 2 (48_packer_bc7.md R370). -/
def execBc7Mode2 (b : Block7) (s : State) : Outcome := .next (s.answer (.tile .bc7 2 (decode7 2 b)))

/-- BC7_MODE3: the decoded tile of a block of mode 3 (48_packer_bc7.md R370). -/
def execBc7Mode3 (b : Block7) (s : State) : Outcome := .next (s.answer (.tile .bc7 3 (decode7 3 b)))

/-- BC7_MODE4: the decoded tile of a block of mode 4 (48_packer_bc7.md R370). -/
def execBc7Mode4 (b : Block7) (s : State) : Outcome := .next (s.answer (.tile .bc7 4 (decode7 4 b)))

/-- BC7_MODE5: the decoded tile of a block of mode 5 (48_packer_bc7.md R370). -/
def execBc7Mode5 (b : Block7) (s : State) : Outcome := .next (s.answer (.tile .bc7 5 (decode7 5 b)))

/-- BC7_MODE6: the decoded tile of a block of mode 6 (48_packer_bc7.md R370). -/
def execBc7Mode6 (b : Block7) (s : State) : Outcome := .next (s.answer (.tile .bc7 6 (decode7 6 b)))

/-- BC7_MODE7: the decoded tile of a block of mode 7 (48_packer_bc7.md R370). -/
def execBc7Mode7 (b : Block7) (s : State) : Outcome := .next (s.answer (.tile .bc7 7 (decode7 7 b)))

/-- BC7_RESERVED: a decode error and no pixels (48_packer_bc7.md R372). -/
def execBc7Reserved (_rest : BitVec 120) (s : State) : Outcome := .next (s.answer .decodeError)

/-- BC6H_MODE1: the decoded tile of a block of mode 1 under CFG.NUMFMT (49_packer_bc6h.md R396, log 7). -/
def execBc6hMode1 (b : Block6) (s : State) : Outcome :=
  .next (s.answer (.tile .bc6h 1 (decode6 (cfgSigned s.rw.cfg) 1 b)))

/-- BC6H_MODE2: the decoded tile of a block of mode 2 under CFG.NUMFMT (49_packer_bc6h.md R396, log 7). -/
def execBc6hMode2 (b : Block6) (s : State) : Outcome :=
  .next (s.answer (.tile .bc6h 2 (decode6 (cfgSigned s.rw.cfg) 2 b)))

/-- BC6H_MODE3: the decoded tile of a block of mode 3 under CFG.NUMFMT (49_packer_bc6h.md R396, log 7). -/
def execBc6hMode3 (b : Block6) (s : State) : Outcome :=
  .next (s.answer (.tile .bc6h 3 (decode6 (cfgSigned s.rw.cfg) 3 b)))

/-- BC6H_MODE4: the decoded tile of a block of mode 4 under CFG.NUMFMT (49_packer_bc6h.md R396, log 7). -/
def execBc6hMode4 (b : Block6) (s : State) : Outcome :=
  .next (s.answer (.tile .bc6h 4 (decode6 (cfgSigned s.rw.cfg) 4 b)))

/-- BC6H_MODE5: the decoded tile of a block of mode 5 under CFG.NUMFMT (49_packer_bc6h.md R396, log 7). -/
def execBc6hMode5 (b : Block6) (s : State) : Outcome :=
  .next (s.answer (.tile .bc6h 5 (decode6 (cfgSigned s.rw.cfg) 5 b)))

/-- BC6H_MODE6: the decoded tile of a block of mode 6 under CFG.NUMFMT (49_packer_bc6h.md R396, log 7). -/
def execBc6hMode6 (b : Block6) (s : State) : Outcome :=
  .next (s.answer (.tile .bc6h 6 (decode6 (cfgSigned s.rw.cfg) 6 b)))

/-- BC6H_MODE7: the decoded tile of a block of mode 7 under CFG.NUMFMT (49_packer_bc6h.md R396, log 7). -/
def execBc6hMode7 (b : Block6) (s : State) : Outcome :=
  .next (s.answer (.tile .bc6h 7 (decode6 (cfgSigned s.rw.cfg) 7 b)))

/-- BC6H_MODE8: the decoded tile of a block of mode 8 under CFG.NUMFMT (49_packer_bc6h.md R396, log 7). -/
def execBc6hMode8 (b : Block6) (s : State) : Outcome :=
  .next (s.answer (.tile .bc6h 8 (decode6 (cfgSigned s.rw.cfg) 8 b)))

/-- BC6H_MODE9: the decoded tile of a block of mode 9 under CFG.NUMFMT (49_packer_bc6h.md R396, log 7). -/
def execBc6hMode9 (b : Block6) (s : State) : Outcome :=
  .next (s.answer (.tile .bc6h 9 (decode6 (cfgSigned s.rw.cfg) 9 b)))

/-- BC6H_MODE10: the decoded tile of a block of mode 10 under CFG.NUMFMT (49_packer_bc6h.md R396, log 7). -/
def execBc6hMode10 (b : Block6) (s : State) : Outcome :=
  .next (s.answer (.tile .bc6h 10 (decode6 (cfgSigned s.rw.cfg) 10 b)))

/-- BC6H_MODE11: the decoded tile of a block of mode 11 under CFG.NUMFMT (49_packer_bc6h.md R396, log 7). -/
def execBc6hMode11 (b : Block6) (s : State) : Outcome :=
  .next (s.answer (.tile .bc6h 11 (decode6 (cfgSigned s.rw.cfg) 11 b)))

/-- BC6H_MODE12: the decoded tile of a block of mode 12 under CFG.NUMFMT (49_packer_bc6h.md R396, log 7). -/
def execBc6hMode12 (b : Block6) (s : State) : Outcome :=
  .next (s.answer (.tile .bc6h 12 (decode6 (cfgSigned s.rw.cfg) 12 b)))

/-- BC6H_MODE13: the decoded tile of a block of mode 13 under CFG.NUMFMT (49_packer_bc6h.md R396, log 7). -/
def execBc6hMode13 (b : Block6) (s : State) : Outcome :=
  .next (s.answer (.tile .bc6h 13 (decode6 (cfgSigned s.rw.cfg) 13 b)))

/-- BC6H_MODE14: the decoded tile of a block of mode 14 under CFG.NUMFMT (49_packer_bc6h.md R396, log 7). -/
def execBc6hMode14 (b : Block6) (s : State) : Outcome :=
  .next (s.answer (.tile .bc6h 14 (decode6 (cfgSigned s.rw.cfg) 14 b)))

/-- BC6H_RESERVED_13: a decode error and no pixels (49_packer_bc6h.md R396). -/
def execBc6hReserved13 (_rest : BitVec 123) (s : State) : Outcome := .next (s.answer .decodeError)

/-- BC6H_RESERVED_17: a decode error and no pixels (49_packer_bc6h.md R396). -/
def execBc6hReserved17 (_rest : BitVec 123) (s : State) : Outcome := .next (s.answer .decodeError)

/-- BC6H_RESERVED_1B: a decode error and no pixels (49_packer_bc6h.md R396). -/
def execBc6hReserved1B (_rest : BitVec 123) (s : State) : Outcome := .next (s.answer .decodeError)

/-- BC6H_RESERVED_1F: a decode error and no pixels (49_packer_bc6h.md R396). -/
def execBc6hReserved1F (_rest : BitVec 123) (s : State) : Outcome := .next (s.answer .decodeError)

end Sys2Proof.Machine
end

