-- ==== Sys2Proof/WellFormed.lean ====
section
/-! DEFINITION. Which instructions an encoding can hold: a reserved word outside the command table, and blocks whose
field values fit the fields of their mode. -/

namespace Sys2Proof

open Sys2Proof.Machine

/-- The opcodes of the command table (30_encoding.md R110). -/
def commandOpcodes : List Nat :=
  [0x00, 0x01, 0x02, 0x0F, 0x10, 0x11, 0x12, 0x13, 0x14, 0x15, 0x16, 0x17, 0x18, 0x19, 0x1A, 0x1B]

/-- Do the values fit fields of these widths, one value per field? -/
def fitsWidths : List Nat → List Nat → Bool
  | [], [] => true
  | w :: ws, v :: vs => decide (v < 2 ^ w) && fitsWidths ws vs
  | _, _ => false

/-- A BC7 block's fields fit mode `m` (48_packer_bc7.md R360, R361, R365): the anchor indices have their top bit 0. -/
def Block7.wf (m : Nat) (b : Block7) : Bool :=
  fitsWidths [(bc7Mode m).pb, (bc7Mode m).rb, (bc7Mode m).isb] [b.shape, b.rot, b.isb] &&
  fitsWidths (List.replicate (bc7CodeCount m) (bc7Mode m).cb) b.codes &&
  fitsWidths (bc7AlphaWidths m) b.alphas &&
  fitsWidths (List.replicate (bc7PbitCount m) 1) b.pbits &&
  fitsWidths (bc7Index1Widths m b.shape) b.idx1 &&
  fitsWidths (bc7Index2Widths m) b.idx2

/-- The width of the stored field of channel `ch` of endpoint `e` (0 = w, 1 = x, 2 = y, 3 = z) in mode `m`
(49_packer_bc6h.md R391): `p` bits for w and in an untransformed mode, else the delta's. -/
def bc6hFieldWidth (m e ch : Nat) : Nat :=
  if e = 0 || !(bc6hMode m).transformed then (bc6hMode m).p else bc6hDeltaBits m ch

/-- The widths of all stored endpoint fields of mode `m`, endpoint by endpoint, each R, G, B. -/
def bc6hEndWidths (m : Nat) : List Nat :=
  (List.range ((bc6hMode m).ns * 2)).flatMap fun e => (List.range 3).map fun ch => bc6hFieldWidth m e ch

/-- A BC6H block's fields fit mode `m` (49_packer_bc6h.md R390, R391, R393). -/
def Block6.wf (m : Nat) (b : Block6) : Bool :=
  decide (b.shape < bc6hShapes m) &&
  fitsWidths (bc6hEndWidths m) b.ends &&
  fitsWidths (bc6hIndexWidths m b.shape) b.idx

/-- A well-formed instruction: one that some command word or some block encodes. -/
def Instr.wf : Instr → Bool
  | .nop => true
  | .encode => true
  | .getmode => true
  | .sreset => true
  | .h2w => true
  | .w2h => true
  | .quant6 => true
  | .unquant6 => true
  | .finish6 => true
  | .quant7 => true
  | .expand7 => true
  | .weight => true
  | .lerp => true
  | .shape => true
  | .anchor => true
  | .delta6 => true
  | .reservedCmd w => !commandOpcodes.contains w.toNat
  | .bc7Mode0 b => b.wf 0
  | .bc7Mode1 b => b.wf 1
  | .bc7Mode2 b => b.wf 2
  | .bc7Mode3 b => b.wf 3
  | .bc7Mode4 b => b.wf 4
  | .bc7Mode5 b => b.wf 5
  | .bc7Mode6 b => b.wf 6
  | .bc7Mode7 b => b.wf 7
  | .bc7Reserved _ => true
  | .bc6hMode1 b => b.wf 1
  | .bc6hMode2 b => b.wf 2
  | .bc6hMode3 b => b.wf 3
  | .bc6hMode4 b => b.wf 4
  | .bc6hMode5 b => b.wf 5
  | .bc6hMode6 b => b.wf 6
  | .bc6hMode7 b => b.wf 7
  | .bc6hMode8 b => b.wf 8
  | .bc6hMode9 b => b.wf 9
  | .bc6hMode10 b => b.wf 10
  | .bc6hMode11 b => b.wf 11
  | .bc6hMode12 b => b.wf 12
  | .bc6hMode13 b => b.wf 13
  | .bc6hMode14 b => b.wf 14
  | .bc6hReserved13 _ => true
  | .bc6hReserved17 _ => true
  | .bc6hReserved1B _ => true
  | .bc6hReserved1F _ => true

end Sys2Proof
end

