-- ==== Sys2Proof/Decode.lean ====
section
/-! DEFINITION. The decoder, total on any bytes, and the encoder: the command word (30_encoding.md R110, R111), the
BC7 block (R131, 48_packer_bc7.md R361, R368, R369) and the BC6H block (R132, 49_packer_bc6h.md R392 to R394). -/

namespace Sys2Proof

open Sys2Proof.Machine

/-- The command table (30_encoding.md R110): OPCODE and command. A word is the OPCODE with bits 31:8 zero. -/
def commandTable : List (Nat × Instr) :=
  [(0x00, .nop),
   (0x01, .encode),
   (0x02, .getmode),
   (0x0F, .sreset),
   (0x10, .h2w),
   (0x11, .w2h),
   (0x12, .quant6),
   (0x13, .unquant6),
   (0x14, .finish6),
   (0x15, .quant7),
   (0x16, .expand7),
   (0x17, .weight),
   (0x18, .lerp),
   (0x19, .shape),
   (0x1A, .anchor),
   (0x1B, .delta6)]

/-- Decode a command word: a word outside the table, or with a nonzero bit in 31:8, is reserved
(30_encoding.md R111). -/
def decodeCmd (w : Word) : Instr := (commandTable.lookup w.toNat).getD (.reservedCmd w)

/-- The mode a reserved-or-not block announces: `getMode7` of 30_encoding.md R133, `none` for RESERVED. -/
def getMode7 (blk : Block) : Option Nat := (List.range 8).find? fun m => bitsOf blk.toNat m 1 == 1

/-- `getMode6` of 30_encoding.md R133, `none` for RESERVED. -/
def getMode6 (blk : Block) : Option Nat :=
  if bitsOf blk.toNat 0 2 = 0 then some 1
  else if bitsOf blk.toNat 0 2 = 1 then some 2
  else (List.range' 3 12).find? fun m => (bc6hMode m).code == bitsOf blk.toNat 0 5

/-- Read the fields of a BC7 block of mode `m` in the order of 48_packer_bc7.md R361 (unpack7, R369): the anchors come
from the partition field just read. -/
def unpack7 (m : Nat) (blk : Block) : Block7 :=
  let head := readFields [(bc7Mode m).pb, (bc7Mode m).rb, (bc7Mode m).isb] (blk.toNat / 2 ^ (m + 1))
  let shape := head.1.getD 0 0
  let codes := readFields (List.replicate (bc7CodeCount m) (bc7Mode m).cb) head.2
  let alphas := readFields (bc7AlphaWidths m) codes.2
  let pbits := readFields (List.replicate (bc7PbitCount m) 1) alphas.2
  let idx1 := readFields (bc7Index1Widths m shape) pbits.2
  let idx2 := readFields (bc7Index2Widths m) idx1.2
  { shape := shape, rot := head.1.getD 1 0, isb := head.1.getD 2 0, codes := codes.1, alphas := alphas.1,
    pbits := pbits.1, idx1 := idx1.1, idx2 := idx2.1 }

/-- Assemble a header field from the pieces read for it (30_encoding.md R135 (a)). -/
def gatherField (f : Field6) : List Seg6 → List Nat → Nat
  | g :: gs, v :: vs => (if g.f = f then v * 2 ^ g.lo else 0) + gatherField f gs vs
  | _, _ => 0

/-- The endpoint fields in the order w, x, y, z, each R, G, B (49_packer_bc6h.md R391). -/
def endFields : List Field6 := [.rw, .gw, .bw, .rx, .gx, .bx, .ry, .gy, .by_, .rz, .gz, .bz]

/-- Read the fields of a BC6H block of mode `m`: the header by its layout, then the indices
(49_packer_bc6h.md R392, R393, R396). -/
def unpack6 (m : Nat) (blk : Block) : Block6 :=
  let layout := bc6hLayout m
  let head := readFields (layout.map Seg6.width) blk.toNat
  let shape := gatherField .d layout head.1
  { shape := shape
    ends := (endFields.take ((bc6hMode m).ns * 6)).map fun f => gatherField f layout head.1
    idx := (readFields (bc6hIndexWidths m shape) head.2).1 }

/-- Decode a BC7 block (30_encoding.md R131, R133, R137). -/
def decodeBc7 (blk : Block) : Instr :=
  match getMode7 blk with
  | some 0 => .bc7Mode0 (unpack7 0 blk)
  | some 1 => .bc7Mode1 (unpack7 1 blk)
  | some 2 => .bc7Mode2 (unpack7 2 blk)
  | some 3 => .bc7Mode3 (unpack7 3 blk)
  | some 4 => .bc7Mode4 (unpack7 4 blk)
  | some 5 => .bc7Mode5 (unpack7 5 blk)
  | some 6 => .bc7Mode6 (unpack7 6 blk)
  | some _ => .bc7Mode7 (unpack7 7 blk)
  | none => .bc7Reserved (BitVec.ofNat 120 (blk.toNat / 2 ^ 8))

/-- Decode a BC6H block (30_encoding.md R132, R133, R137). -/
def decodeBc6h (blk : Block) : Instr :=
  match getMode6 blk with
  | some 1 => .bc6hMode1 (unpack6 1 blk)
  | some 2 => .bc6hMode2 (unpack6 2 blk)
  | some 3 => .bc6hMode3 (unpack6 3 blk)
  | some 4 => .bc6hMode4 (unpack6 4 blk)
  | some 5 => .bc6hMode5 (unpack6 5 blk)
  | some 6 => .bc6hMode6 (unpack6 6 blk)
  | some 7 => .bc6hMode7 (unpack6 7 blk)
  | some 8 => .bc6hMode8 (unpack6 8 blk)
  | some 9 => .bc6hMode9 (unpack6 9 blk)
  | some 10 => .bc6hMode10 (unpack6 10 blk)
  | some 11 => .bc6hMode11 (unpack6 11 blk)
  | some 12 => .bc6hMode12 (unpack6 12 blk)
  | some 13 => .bc6hMode13 (unpack6 13 blk)
  | some _ => .bc6hMode14 (unpack6 14 blk)
  | none =>
    let rest := BitVec.ofNat 123 (blk.toNat / 2 ^ 5)
    if bitsOf blk.toNat 0 5 = 0x13 then .bc6hReserved13 rest
    else if bitsOf blk.toNat 0 5 = 0x17 then .bc6hReserved17 rest
    else if bitsOf blk.toNat 0 5 = 0x1B then .bc6hReserved1B rest
    else .bc6hReserved1F rest

/-- Decode a block under a format (30_encoding.md R133). -/
def decodeBlock : Format → Block → Instr
  | .bc7, blk => decodeBc7 blk
  | .bc6h, blk => decodeBc6h blk

/-- The three encodings of CORE: the command word and the blocks of the two formats. -/
inductive Encoding where
  | cmd
  | bc7
  | bc6h
deriving DecidableEq, Repr

/-- Why bytes are no instruction: there are fewer of them than the encoding's length (30_encoding.md R136: a command
word is 4 bytes, a block 16). Every word and every block of full length decodes, reserved ones to a row of their own. -/
inductive DecodeError where
  | truncated (encoding : Encoding) (got : Nat)
deriving DecidableEq, Repr

/-- The number of bytes of an encoding (30_encoding.md R136). -/
def Encoding.size : Encoding → Nat
  | .cmd => 4
  | .bc7 => 16
  | .bc6h => 16

/-- The value of bytes, the first at the lowest address and least significant (20_memory.md R82). -/
def ofBytes : List Byte → Nat
  | [] => 0
  | b :: bs => b.toNat + 2 ^ 8 * ofBytes bs

/-- The `n` bytes of a value, the least significant first (20_memory.md R82). -/
def toBytes : Nat → Nat → List Byte
  | 0, _ => []
  | n + 1, v => BitVec.ofNat 8 v :: toBytes n (v / 2 ^ 8)

/-- Decode one instruction of an encoding from bytes, and give back the bytes after it. -/
def decode (k : Encoding) (bytes : List Byte) : Except DecodeError (Instr × List Byte) :=
  if bytes.length < k.size then .error (.truncated k bytes.length)
  else
    let v := ofBytes (bytes.take k.size)
    let i := match k with
      | .cmd => decodeCmd (BitVec.ofNat 32 v)
      | .bc7 => decodeBc7 (BitVec.ofNat 128 v)
      | .bc6h => decodeBc6h (BitVec.ofNat 128 v)
    .ok (i, bytes.drop k.size)

/-- Pack a BC7 block of mode `m` (pack7, 48_packer_bc7.md R368): the mode's unary code, then the fields of R361. -/
def pack7 (m : Nat) (b : Block7) : Block :=
  BitVec.ofNat 128 (packFields (
    (m + 1, 2 ^ m) :: ((bc7Mode m).pb, b.shape) :: ((bc7Mode m).rb, b.rot) :: ((bc7Mode m).isb, b.isb) ::
    ((List.replicate (bc7CodeCount m) (bc7Mode m).cb).zip b.codes ++
     (bc7AlphaWidths m).zip b.alphas ++
     (List.replicate (bc7PbitCount m) 1).zip b.pbits ++
     (bc7Index1Widths m b.shape).zip b.idx1 ++
     (bc7Index2Widths m).zip b.idx2)))

/-- The value of a header field of a block of mode `m` (49_packer_bc6h.md R394). -/
def headerValue (m : Nat) (b : Block6) (f : Field6) : Nat :=
  if f = .m then (bc6hMode m).code
  else if f = .d then b.shape
  else b.ends.getD (endFields.idxOf f) 0

/-- Pack a BC6H block of mode `m` (pack6, 49_packer_bc6h.md R394): the header by its layout, then the indices. -/
def pack6 (m : Nat) (b : Block6) : Block :=
  BitVec.ofNat 128 (packFields (
    ((bc6hLayout m).map fun g => (g.width, headerValue m b g.f / 2 ^ g.lo)) ++
    (bc6hIndexWidths m b.shape).zip b.idx))

/-- The command word of a command, 0 for a block (30_encoding.md R110). -/
def encodeCmd : Instr → Word
  | .nop => 0x00
  | .encode => 0x01
  | .getmode => 0x02
  | .sreset => 0x0F
  | .h2w => 0x10
  | .w2h => 0x11
  | .quant6 => 0x12
  | .unquant6 => 0x13
  | .finish6 => 0x14
  | .quant7 => 0x15
  | .expand7 => 0x16
  | .weight => 0x17
  | .lerp => 0x18
  | .shape => 0x19
  | .anchor => 0x1A
  | .delta6 => 0x1B
  | .reservedCmd w => w
  | .bc7Mode0 _ => 0
  | .bc7Mode1 _ => 0
  | .bc7Mode2 _ => 0
  | .bc7Mode3 _ => 0
  | .bc7Mode4 _ => 0
  | .bc7Mode5 _ => 0
  | .bc7Mode6 _ => 0
  | .bc7Mode7 _ => 0
  | .bc7Reserved _ => 0
  | .bc6hMode1 _ => 0
  | .bc6hMode2 _ => 0
  | .bc6hMode3 _ => 0
  | .bc6hMode4 _ => 0
  | .bc6hMode5 _ => 0
  | .bc6hMode6 _ => 0
  | .bc6hMode7 _ => 0
  | .bc6hMode8 _ => 0
  | .bc6hMode9 _ => 0
  | .bc6hMode10 _ => 0
  | .bc6hMode11 _ => 0
  | .bc6hMode12 _ => 0
  | .bc6hMode13 _ => 0
  | .bc6hMode14 _ => 0
  | .bc6hReserved13 _ => 0
  | .bc6hReserved17 _ => 0
  | .bc6hReserved1B _ => 0
  | .bc6hReserved1F _ => 0

/-- The block of a block row, 0 for a command. -/
def encodeBlock : Instr → Block
  | .nop => 0
  | .encode => 0
  | .getmode => 0
  | .sreset => 0
  | .h2w => 0
  | .w2h => 0
  | .quant6 => 0
  | .unquant6 => 0
  | .finish6 => 0
  | .quant7 => 0
  | .expand7 => 0
  | .weight => 0
  | .lerp => 0
  | .shape => 0
  | .anchor => 0
  | .delta6 => 0
  | .reservedCmd _ => 0
  | .bc7Mode0 b => pack7 0 b
  | .bc7Mode1 b => pack7 1 b
  | .bc7Mode2 b => pack7 2 b
  | .bc7Mode3 b => pack7 3 b
  | .bc7Mode4 b => pack7 4 b
  | .bc7Mode5 b => pack7 5 b
  | .bc7Mode6 b => pack7 6 b
  | .bc7Mode7 b => pack7 7 b
  | .bc7Reserved rest => BitVec.ofNat 128 (rest.toNat * 2 ^ 8)
  | .bc6hMode1 b => pack6 1 b
  | .bc6hMode2 b => pack6 2 b
  | .bc6hMode3 b => pack6 3 b
  | .bc6hMode4 b => pack6 4 b
  | .bc6hMode5 b => pack6 5 b
  | .bc6hMode6 b => pack6 6 b
  | .bc6hMode7 b => pack6 7 b
  | .bc6hMode8 b => pack6 8 b
  | .bc6hMode9 b => pack6 9 b
  | .bc6hMode10 b => pack6 10 b
  | .bc6hMode11 b => pack6 11 b
  | .bc6hMode12 b => pack6 12 b
  | .bc6hMode13 b => pack6 13 b
  | .bc6hMode14 b => pack6 14 b
  | .bc6hReserved13 rest => BitVec.ofNat 128 (rest.toNat * 2 ^ 5 + 0x13)
  | .bc6hReserved17 rest => BitVec.ofNat 128 (rest.toNat * 2 ^ 5 + 0x17)
  | .bc6hReserved1B rest => BitVec.ofNat 128 (rest.toNat * 2 ^ 5 + 0x1B)
  | .bc6hReserved1F rest => BitVec.ofNat 128 (rest.toNat * 2 ^ 5 + 0x1F)

/-- Which encoding holds an instruction. -/
def Instr.encoding : Instr → Encoding
  | .nop => .cmd
  | .encode => .cmd
  | .getmode => .cmd
  | .sreset => .cmd
  | .h2w => .cmd
  | .w2h => .cmd
  | .quant6 => .cmd
  | .unquant6 => .cmd
  | .finish6 => .cmd
  | .quant7 => .cmd
  | .expand7 => .cmd
  | .weight => .cmd
  | .lerp => .cmd
  | .shape => .cmd
  | .anchor => .cmd
  | .delta6 => .cmd
  | .reservedCmd _ => .cmd
  | .bc7Mode0 _ => .bc7
  | .bc7Mode1 _ => .bc7
  | .bc7Mode2 _ => .bc7
  | .bc7Mode3 _ => .bc7
  | .bc7Mode4 _ => .bc7
  | .bc7Mode5 _ => .bc7
  | .bc7Mode6 _ => .bc7
  | .bc7Mode7 _ => .bc7
  | .bc7Reserved _ => .bc7
  | .bc6hMode1 _ => .bc6h
  | .bc6hMode2 _ => .bc6h
  | .bc6hMode3 _ => .bc6h
  | .bc6hMode4 _ => .bc6h
  | .bc6hMode5 _ => .bc6h
  | .bc6hMode6 _ => .bc6h
  | .bc6hMode7 _ => .bc6h
  | .bc6hMode8 _ => .bc6h
  | .bc6hMode9 _ => .bc6h
  | .bc6hMode10 _ => .bc6h
  | .bc6hMode11 _ => .bc6h
  | .bc6hMode12 _ => .bc6h
  | .bc6hMode13 _ => .bc6h
  | .bc6hMode14 _ => .bc6h
  | .bc6hReserved13 _ => .bc6h
  | .bc6hReserved17 _ => .bc6h
  | .bc6hReserved1B _ => .bc6h
  | .bc6hReserved1F _ => .bc6h

/-- The bytes of an instruction, the first at the lowest address (20_memory.md R82). -/
def encode (i : Instr) : List Byte :=
  match i.encoding with
  | .cmd => toBytes 4 (encodeCmd i).toNat
  | .bc7 => toBytes 16 (encodeBlock i).toNat
  | .bc6h => toBytes 16 (encodeBlock i).toNat

/-- Which encoding a row of the opcode table with `nbits` bits and the bits `w` belongs to. The table numbers the
command rows by 32 bits and the block rows by their mode bits only, and it is CFG.FORMAT, which the table's word does
not hold, that tells the formats apart. Log 8: a word of 8 bits with at most one bit set is read as a BC7 row (its
mode bits are a bare unary code), any other as a BC6H row. -/
def tableEncoding (nbits w : Nat) : Encoding :=
  if nbits = 32 then .cmd
  else if nbits = 8 && ((List.range 8).map fun m => bitsOf w m 1).sum ≤ 1 then .bc7
  else .bc6h

/-- The instruction the decoder reads from the bytes of an opcode-table row's word, every bit above `nbits` zero. -/
def decodeTableWord (nbits w : Nat) : Option Instr :=
  let k := tableEncoding nbits w
  match decode k (toBytes k.size (w % 2 ^ nbits)) with
  | .ok (i, _) => some i
  | .error _ => none

end Sys2Proof
end

