-- ==== Sys2Proof/Machine/CmdControl.lean ====
section
/-! DEFINITION. The completion steps of NOP, SRESET, GETMODE and of a reserved command word. -/

namespace Sys2Proof.Machine

/-- NOP (30_encoding.md R113): completes with no error. -/
def execNop (s : State) : Outcome := .next (s.complete false)

/-- The writable registers after SRESET (70_reset_and_hazards.md R452): PIX and its written marks are unchanged. -/
def RwRegs.softReset (r : RwRegs) : RwRegs :=
  { RwRegs.reset with pixLo := r.pixLo, pixHi := r.pixHi, wrLo := r.wrLo, wrHi := r.wrHi }

/-- SRESET (70_reset_and_hazards.md R452): CMD keeps the accepted word, STATUS becomes 0x00000002 with WIGN clear
(log 11). -/
def execSreset (s : State) : Outcome :=
  .next { s with
    status := statusWord false true false 0 false false
    res := 0
    rinfo := 0
    rerrLo := 0
    rerrHi := 0
    out := Vector.replicate 4 0
    rw := s.rw.softReset
    seq := .idle }

/-- A block's mode under a format, `none` for a reserved encoding (30_encoding.md R133). -/
def blockMode (fmt : Format) (blk : Block) : Option Nat :=
  match fmt with
  | .bc7 => getMode7 blk
  | .bc6h => getMode6 blk

/-- GETMODE (48_packer_bc7.md R371, 49_packer_bc6h.md R395): the mode of the block in BIN0..3 under CFG.FORMAT; a
reserved block writes RES = 0xFFFFFFFF and raises RSVD_MODE. -/
def execGetmode (s : State) : Outcome :=
  match blockMode (cfgFormat s.inputs.cfg) (blockOfWords s.inputs.bin) with
  | some m => .next (s.completeRes (wordOf m))
  | none => .next ({ s with res := 0xFFFFFFFF }.raise .rsvdMode)

/-- A reserved command word (30_encoding.md R111): BAD_CMD, whatever the word, and no other register changes. -/
def execReservedCmd (_w : Word) (s : State) : Outcome := .next (s.raise .badCmd)

end Sys2Proof.Machine
end

