-- ==== Sys2Proof/Machine/Fitter.lean ====
section
/-! DEFINITION. The reference colour-endpoint fitter (43_endpoint_fitter.md R220 to R230), in exact rationals. -/

namespace Sys2Proof.Machine

/-- A fitter: from `n`, the points of `n` channels and their weights, the endpoints A and B (43_endpoint_fitter.md
R220). ENCODE's stages take any fitter (00_scope.md R8). -/
abbrev Fitter := Nat → List (List Int) → List Nat → List Rat × List Rat

/-- A channel of a vector, 0 past its end. -/
def chan (v : List Rat) (a : Nat) : Rat := v.getD a 0

/-- The scalar product of two vectors. -/
def dot (u v : List Rat) : Rat := (List.zipWith (· * ·) u v).sum

/-- The weights of the fit: all 1 if they sum to 0 (43_endpoint_fitter.md R221). -/
def fitWeights (wts : List Nat) : List Rat :=
  if wts.sum = 0 then wts.map fun _ => 1 else wts.map fun w => (w : Rat)

/-- The weighted centroid of `n`-channel points (43_endpoint_fitter.md R223). -/
def centroid (n : Nat) (pts : List (List Rat)) (w : List Rat) : List Rat :=
  (List.range n).map fun a => (List.zipWith (fun wi p => wi * chan p a) w pts).sum / w.sum

/-- The weighted covariance matrix, by rows (43_endpoint_fitter.md R224). -/
def covariance (n : Nat) (pts : List (List Rat)) (w c : List Rat) : List (List Rat) :=
  (List.range n).map fun a => (List.range n).map fun b =>
    (List.zipWith (fun wi p => wi * (chan p a - chan c a) * (chan p b - chan c b)) w pts).sum

/-- The starting vector: the row of largest square sum, the lowest on ties (43_endpoint_fitter.md R226). -/
def startVector (m : List (List Rat)) : List Rat := m.getD (argMaxRat (m.map fun row => dot row row)) []

/-- One step of the power iteration (43_endpoint_fitter.md R227). -/
def powerStep (m : List (List Rat)) (v : List Rat) : List Rat :=
  let u := m.map fun row => dot row v
  let k := argMaxRat (u.map absRat)
  u.map fun x => x / chan u k

/-- `k` steps of the power iteration. -/
def powerSteps (m : List (List Rat)) : Nat → List Rat → List Rat
  | 0, v => v
  | k + 1, v => powerSteps m k (powerStep m v)

/-- The least of a list of rationals, 0 for an empty one. -/
def minRat (l : List Rat) : Rat := l.getD (argMinRat l) 0

/-- The greatest of a list of rationals, 0 for an empty one. -/
def maxRat (l : List Rat) : Rat := l.getD (argMaxRat l) 0

/-- The projections of the two extreme points onto the axis `v` through `c` (43_endpoint_fitter.md R228). -/
def project (n : Nat) (pts : List (List Rat)) (c v : List Rat) : List Rat × List Rat :=
  let t := pts.map fun p => ((List.range n).map fun a => (chan p a - chan c a) * chan v a).sum
  let vv := dot v v
  let at_ (x : Rat) : List Rat := (List.range n).map fun a => chan c a + x / vv * chan v a
  (at_ (minRat t), at_ (maxRat t))

/-- `fit(pts, wts)` on `n`-channel points with `iters` power-iteration steps (43_endpoint_fitter.md R220 to R228): the
endpoints A and B. DESIGN CHOICE (log 23): where all weighted points are equal and a point of weight 0 is not, R225
gives A = B = c, and the last sentence of R229 for N = 1 another pair. The pseudocode's R225 is followed. -/
def fit (iters : Nat) : Fitter := fun n pts wts =>
  if pts.isEmpty then (List.replicate n 0, List.replicate n 0)
  else
    let q := pts.map fun p => p.map fun x => (x : Rat)
    let w := fitWeights wts
    let c := centroid n q w
    let m := covariance n q w c
    if m.all fun row => row.all fun x => x == 0 then (c, c)
    else project n q c (powerSteps m iters (startVector m))

end Sys2Proof.Machine
end

