-- ==== Sys2Proof/Machine/IndexAssign.lean ====
section
/-! DEFINITION. The index-assignment comparator (46_index_assign.md). -/

namespace Sys2Proof.Machine

/-- The weighted squared distance of a palette entry from a pixel (46_index_assign.md R300). -/
def entryError (ww : List Nat) (v entry : List Int) : Nat :=
  (List.zipWith (fun w d => w * d ^ 2) ww (List.zipWith (fun p x => (p - x).natAbs) entry v)).sum

/-- The number of palette entries a pixel may use (46_index_assign.md R301): half of them at an anchor. -/
def indexLimit (b : Nat) (anchor : Bool) : Nat := if anchor then 2 ^ b / 2 else 2 ^ b

/-- The comparator (46_index_assign.md R300): the lowest index of least error, and that error. -/
def nearestEntry (ww : List Nat) (v : List Int) (pal : List (List Int)) (lim : Nat) : Nat × Nat :=
  let es := (pal.take lim).map (entryError ww v)
  let j := argMinNat es
  (j, es.getD j 0)

/-- The index array of sixteen pixels from the pixels assigned so far; an invalid pixel gets 0
(46_index_assign.md R305). -/
def indexArray (asg : List (Nat × Nat × Nat)) : List Nat :=
  pixels.map fun i => ((asg.find? fun a => a.1 == i).map fun a => a.2.1).getD 0

/-- The summed error of an assignment (46_index_assign.md R303). -/
def assignmentError (asg : List (Nat × Nat × Nat)) : Nat := (asg.map fun a => a.2.2).sum

end Sys2Proof.Machine
end

