-- ==== Sys2Proof/Machine/ModeSelector.lean ====
section
/-! DEFINITION. The mode selector (47_mode_selector.md): the legality checks of ENCODE, the evaluation of one candidate,
the enumeration, the early exit and the selection. -/

namespace Sys2Proof.Machine

/-! ### BC7 candidates -/

/-- Fit the endpoints of a list of pixels over the first `n` channels of their vectors (43_endpoint_fitter.md R221). -/
def fitPixels (f : Fitter) (n : Nat) (vec : Nat → List Int) (imp : List Nat) (px : List Nat) : List Rat × List Rat :=
  f n (px.map fun i => (vec i).take n) (px.map fun i => imp.getD i 0)

/-- Quantize a fitted pair by the p-bit scheme of its mode (47_mode_selector.md R323, 44_quantizer.md R254 to R257). -/
def quantizePair7 (md : Bc7Mode) (a b : List Rat) : Ends :=
  if md.epb = 1 then
    let pA := endpointPbit a md.cb
    let pB := endpointPbit b md.cb
    ⟨pbitCodes a md.cb pA, pbitCodes b md.cb pB, pA, pB⟩
  else if md.spb = 1 then
    let p := sharedPbit a b md.cb
    ⟨pbitCodes a md.cb p, pbitCodes b md.cb p, p, p⟩
  else ⟨a.map fun v => (q7 v md.cb : Int), b.map fun v => (q7 v md.cb : Int), 0, 0⟩

/-- Assign an index to each pixel of a list (46_index_assign.md R300, R301): (pixel, index, error). -/
def assignPixels (pal : List (List Int)) (b : Nat) (anchorAt : Nat → Bool) (ww : Nat → List Nat)
    (vec : Nat → List Int) (px : List Nat) : List (Nat × Nat × Nat) :=
  px.map fun i => (i, nearestEntry (ww i) (vec i) pal (indexLimit b (anchorAt i)))

/-- The source vector of slot `i` under rotation `r` (43_endpoint_fitter.md R229). -/
def rotatedVector (t : Tile) (r i : Nat) : List Int := rotate (t.vec.getD i []) r

/-- The weights `ww` of slot `i` under rotation `r` (47_mode_selector.md R323). -/
def rotatedWeights (t : Tile) (r i : Nat) : List Nat :=
  (rotate (t.cw.getD i []) r).map fun c => t.imp.getD i 0 * c

/-- The colour index bits of a BC7 candidate (47_mode_selector.md R323). -/
def colourBits (m isb : Nat) : Nat := if m = 4 && isb == 1 then (bc7Mode m).ib2 else (bc7Mode m).ib

/-- The alpha index bits of a BC7 candidate of mode 4 or 5 (47_mode_selector.md R323). -/
def alphaBits (m isb : Nat) : Nat := if m = 4 && isb == 1 then (bc7Mode m).ib else (bc7Mode m).ib2

/-- The colour work of one region: its endpoints and the assignment of its pixels (47_mode_selector.md R323). -/
def evalRegion7 (f : Fitter) (t : Tile) (p : Position) (k : Nat) : Ends × List (Nat × Nat × Nat) :=
  let md := bc7Mode p.mode
  let n := bc7Channels p.mode
  let px := regionPixels t md.ns p.shape k
  let ab := fitPixels f n (rotatedVector t p.rot) t.imp px
  let e := quantizePair7 md ab.1 ab.2
  let b := colourBits p.mode p.isb
  let pal := palette7 b (recon7 md e.a e.pA) (recon7 md e.b e.pB)
  (e, assignPixels pal b (anchors md.ns p.shape).contains (fun i => (rotatedWeights t p.rot i).take n)
    (fun i => (rotatedVector t p.rot i).take n) px)

/-- The error of decoding alpha as 255 in modes 0 to 3 (46_index_assign.md R302). -/
def opaqueAlphaError (t : Tile) (p : Position) : Nat :=
  ((pixels.filter fun i => t.valid.getD i false).map fun i =>
    (rotatedWeights t p.rot i).getD 3 0 * (255 - (rotatedVector t p.rot i).getD 3 0).natAbs ^ 2).sum

/-- The alpha work of modes 4 and 5: codes A, B and the assignment of the pixels (47_mode_selector.md R323). -/
def evalAlpha7 (f : Fitter) (t : Tile) (p : Position) : List Nat × List (Nat × Nat × Nat) :=
  let md := bc7Mode p.mode
  let px := regionPixels t md.ns p.shape 0
  let alpha (i : Nat) : List Int := [(rotatedVector t p.rot i).getD 3 0]
  let ab := fitPixels f 1 alpha t.imp px
  let aA := q7 (chan ab.1 0) md.ab
  let aB := q7 (chan ab.2 0) md.ab
  let b := alphaBits p.mode p.isb
  let pal := palette7 b [(expand aA md.ab : Int)] [(expand aB md.ab : Int)]
  ([aA, aB], assignPixels pal b (fun i => i == 0) (fun i => [(rotatedWeights t p.rot i).getD 3 0]) alpha px)

/-- Evaluate a BC7 candidate (47_mode_selector.md R323) with a fitter: its error and the candidate. -/
def evalBc7 (f : Fitter) (t : Tile) (p : Position) : Nat × Candidate :=
  let md := bc7Mode p.mode
  let regions := (List.range md.ns).map (evalRegion7 f t p)
  let colour := regions.flatMap fun r => r.2
  let base : Candidate :=
    { mode := p.mode, shape := p.shape, rot := p.rot, isb := p.isb
      ends := regions.map fun r => r.1, alphas := [], idx1 := indexArray colour, idx2 := [] }
  if bc7SeparateAlpha p.mode then
    let al := evalAlpha7 f t p
    (assignmentError colour + assignmentError al.2, { base with alphas := al.1, idx2 := indexArray al.2 })
  else if bc7FourChannels p.mode then (assignmentError colour, base)
  else (assignmentError colour + opaqueAlphaError t p, base)

/-! ### BC6H candidates -/

/-- The quantized pair of one region (47_mode_selector.md R327). -/
def quantizeRegion6 (f : Fitter) (t : Tile) (signed : Bool) (p : Position) (k : Nat) : Ends :=
  let md := bc6hMode p.mode
  let ab := fitPixels f 3 (fun i => t.vec.getD i []) t.imp (regionPixels t md.ns p.shape k)
  ⟨ab.1.map fun v => q6 signed v md.p, ab.2.map fun v => q6 signed v md.p, 0, 0⟩

/-- The endpoints w, x, y, z of a candidate's pairs in the order of 49_packer_bc6h.md R391. -/
def endsInOrder (es : List Ends) : List (List Int) := es.flatMap fun e => [e.a, e.b]

/-- Every delta of a transformed candidate fits its field (47_mode_selector.md R327, 44_quantizer.md R248). -/
def deltasFit (m : Nat) (es : List Ends) : Bool :=
  let all := endsInOrder es
  let w := all.headD []
  all.tail.all fun e => (List.range 3).all fun ch => deltaFits (e.getD ch 0 - w.getD ch 0) (bc6hDeltaBits m ch)

/-- Evaluate a BC6H candidate (47_mode_selector.md R327) with a fitter: `none` is INVALID. -/
def evalBc6h (f : Fitter) (t : Tile) (signed : Bool) (p : Position) : Option (Nat × Candidate) :=
  let md := bc6hMode p.mode
  let es := (List.range md.ns).map (quantizeRegion6 f t signed p)
  if md.transformed && !deltasFit p.mode es then none
  else
    let asg := (List.range md.ns).flatMap fun k =>
      let e := es.getD k default
      assignPixels (palette6 signed md.p md.ib e.a e.b) md.ib (anchors md.ns p.shape).contains
        (fun i => (t.cw.getD i []).map fun c => t.imp.getD i 0 * c) (fun i => t.vec.getD i [])
        (regionPixels t md.ns p.shape k)
    some (assignmentError asg,
      { mode := p.mode, shape := p.shape, rot := 0, isb := 0, ends := es, alphas := []
        idx1 := indexArray asg, idx2 := [] })

/-! ### Enumeration and selection -/

/-- Evaluate the candidate at a position under a format (47_mode_selector.md R323, R327). -/
def evalAt (f : Fitter) (r : RwRegs) (t : Tile) (p : Position) : Option (Nat × Candidate) :=
  match cfgFormat r.cfg with
  | .bc7 => some (evalBc7 f t p)
  | .bc6h => evalBc6h f t (cfgSigned r.cfg) p

/-- Selection (47_mode_selector.md R325): a valid candidate replaces BEST iff there is none or its error is less. -/
def CandRegs.offer (c : CandRegs) (p : Position) : Option (Nat × Candidate) → CandRegs
  | none => { c with pos := p }
  | some (e, cand) =>
    match c.bestErr with
    | none => { bestErr := some e, best := some cand, pos := p }
    | some b => if e < b then { bestErr := some e, best := some cand, pos := p } else { c with pos := p }

/-- The positions of BC7 mode `m` in evaluation order (47_mode_selector.md R322). -/
def positions7 (m : Nat) : List Position :=
  (List.range (bc7Shapes m)).flatMap fun s =>
    (List.range (if bc7SeparateAlpha m then 4 else 1)).flatMap fun r =>
      (List.range (if m = 4 then 2 else 1)).map fun isb => ⟨m, s, r, isb⟩

/-- The positions of BC6H mode `m` in evaluation order (47_mode_selector.md R328). -/
def positions6 (m : Nat) : List Position := (List.range (bc6hShapes m)).map fun s => ⟨m, s, 0, 0⟩

/-- Evaluate positions in order and offer each candidate to the selection (47_mode_selector.md R320 step 3). -/
def evalPositions (f : Fitter) (r : RwRegs) (t : Tile) (ps : List Position) (c : CandRegs) : CandRegs :=
  ps.foldl (fun c p => c.offer p (evalAt f r t p)) c

/-- The early-exit condition before a BC7 mode (47_mode_selector.md R324). -/
def earlyExit (r : RwRegs) (c : CandRegs) : Bool :=
  match c.bestErr with
  | none => false
  | some e => !cfgExhaustive r.cfg && decide (e < thresh r)

/-- The BC7 search over a mode order (47_mode_selector.md R322, R324). -/
def searchBc7 (f : Fitter) (r : RwRegs) (t : Tile) : List Nat → CandRegs → CandRegs
  | [], c => c
  | m :: ms, c => if earlyExit r c then c else searchBc7 f r t ms (evalPositions f r t (positions7 m) c)

/-- The BC6H search: every candidate (47_mode_selector.md R328). -/
def searchBc6h (f : Fitter) (r : RwRegs) (t : Tile) (ms : List Nat) (c : CandRegs) : CandRegs :=
  evalPositions f r t (ms.flatMap positions6) c

/-- The candidate FORCE names (47_mode_selector.md R330). -/
def forcedPosition (f : Word) : Position := ⟨forceMode f, forceShape f, forceRot f, forceIsb f⟩

/-- Step 3 of ENCODE with a fitter and the mode orders of a machine (47_mode_selector.md R320, R322, R328, R330). -/
def runSearch (f : Fitter) (P : Params) (r : RwRegs) (t : Tile) : CandRegs :=
  let c := CandRegs.start P (cfgFormat r.cfg)
  if forceEn r.force then evalPositions f r t [forcedPosition r.force] c
  else match cfgFormat r.cfg with
    | .bc7 => searchBc7 f r t P.modeOrderBc7 c
    | .bc6h => searchBc6h f r t P.modeOrderBc6h c

/-- The search of an ENCODE on a machine: its parameters, the reference fit, and the latched inputs
(47_mode_selector.md R320 steps 2 and 3). -/
def encodeSearch (P : Params) (r : RwRegs) : CandRegs :=
  runSearch (fit P.fitIters) P r (prepareTile P.impBoost r)

/-! ### The checks of ENCODE -/

/-- FORCE.MODE, ROT and ISB are legal under the format (47_mode_selector.md R331). -/
def forceConfigLegal (r : RwRegs) : Bool :=
  match cfgFormat r.cfg with
  | .bc7 => decide (forceMode r.force ≤ 7) && (forceRot r.force == 0 || bc7SeparateAlpha (forceMode r.force)) &&
      (forceIsb r.force == 0 || forceMode r.force == 4)
  | .bc6h => decide (1 ≤ forceMode r.force ∧ forceMode r.force ≤ 14) && forceRot r.force == 0 && forceIsb r.force == 0

/-- FORCE.SHAPE is legal for FORCE.MODE (47_mode_selector.md R331, 42_partition_lut.md R205). -/
def forceShapeLegal (r : RwRegs) : Bool :=
  match cfgFormat r.cfg with
  | .bc7 => decide (forceShape r.force < bc7Shapes (forceMode r.force))
  | .bc6h => decide (forceShape r.force < bc6hShapes (forceMode r.force))

/-- The checks of ENCODE in their order (47_mode_selector.md R320 step 1, 60_exceptions.md R421). -/
def encodeChecks (r : RwRegs) : Except ErrCode Unit :=
  if cfgAlpha r.cfg = 3 then .error .badConfig
  else if forceEn r.force && !forceConfigLegal r then .error .badConfig
  else if !tileDimLegal r.tiledim then .error .badTileDim
  else if forceEn r.force && !forceShapeLegal r then .error .badShape
  else .ok ()

end Sys2Proof.Machine
end

