-- ==== Sys2Proof/Machine/Packer.lean ====
section
/-! DEFINITION. From the winning candidate to the 128-bit block: the fields of 48_packer_bc7.md R368 and
49_packer_bc6h.md R394, packed by the encoder, and the fallback block (47_mode_selector.md R332). -/

namespace Sys2Proof.Machine

/-- The fields of a BC7 candidate in block order (48_packer_bc7.md R366, R368): array 1 of mode 4 with ISB = 1 holds
the alpha indices (R364). -/
def candidateBlock7 (c : Candidate) : Block7 where
  shape := c.shape
  rot := c.rot
  isb := c.isb
  codes := (List.range (bc7Channels c.mode)).flatMap fun ch =>
    c.ends.flatMap fun e => [(e.a.getD ch 0).toNat, (e.b.getD ch 0).toNat]
  alphas := c.alphas
  pbits :=
    if (bc7Mode c.mode).epb = 1 then c.ends.flatMap fun e => [e.pA, e.pB]
    else if (bc7Mode c.mode).spb = 1 then c.ends.map fun e => e.pA
    else []
  idx1 := if c.mode = 4 && c.isb == 1 then c.idx2 else c.idx1
  idx2 := if c.mode = 4 && c.isb == 1 then c.idx1 else c.idx2

/-- The stored value of channel `ch` of an endpoint (49_packer_bc6h.md R394, 44_quantizer.md R247, R248): absolute in
w and in untransformed modes, else the delta from w. -/
def storedEnd (m : Nat) (w : List Int) (isW : Bool) (e : List Int) (ch : Nat) : Nat :=
  if isW || !(bc6hMode m).transformed then deltaStored (e.getD ch 0) (bc6hMode m).p
  else deltaStored (e.getD ch 0 - w.getD ch 0) (bc6hDeltaBits m ch)

/-- The stored fields of a BC6H candidate (49_packer_bc6h.md R394). -/
def candidateBlock6 (c : Candidate) : Block6 :=
  let all := c.ends.flatMap fun e => [e.a, e.b]
  let w := all.headD []
  { shape := c.shape
    ends := (List.range 3).map (storedEnd c.mode w true w) ++
      all.tail.flatMap fun e => (List.range 3).map (storedEnd c.mode w false e)
    idx := c.idx1 }

/-- Pack a candidate (47_mode_selector.md R320 step 4). -/
def packCandidate (fmt : Format) (c : Candidate) : Block :=
  match fmt with
  | .bc7 => pack7 c.mode (candidateBlock7 c)
  | .bc6h => pack6 c.mode (candidateBlock6 c)

/-- The fallback block (47_mode_selector.md R332): BC7 mode 0 with every field 0, BC6H every bit 0. -/
def fallbackBlock : Format → Block
  | .bc7 => 1
  | .bc6h => 0

/-- The position RINFO reports for a fallback (47_mode_selector.md R332). -/
def fallbackPosition : Format → Position
  | .bc7 => ⟨0, 0, 0, 0⟩
  | .bc6h => ⟨1, 0, 0, 0⟩

end Sys2Proof.Machine
end

