-- ==== Sys2Proof/Machine/CmdEncode.lean ====
section
/-! DEFINITION. The completion step of ENCODE (47_mode_selector.md R320): the checks, the tile, the search, and the
commit of the block. -/

namespace Sys2Proof.Machine

/-- Commit of an error-free ENCODE (47_mode_selector.md R333): the block, RINFO, RERR and STATUS in one step. -/
def State.commit (blk : Block) (info : Word) (err : Nat) (fallback : Bool) (s : State) : State :=
  { s with
    out := wordsOfBlock blk
    rinfo := info
    rerrLo := wordOf (bitsOf err 0 32)
    rerrHi := wordOf (bitsOf err 32 32) }.complete fallback

/-- The position of a candidate, as RINFO reports it (10_state.md R39). -/
def Candidate.position (c : Candidate) : Position := ⟨c.mode, c.shape, c.rot, c.isb⟩

/-- Commit what the search left in the candidate registers: the winner packed, or the fallback block
(47_mode_selector.md R320 step 4, R332, R333). -/
def State.commitSearch (fmt : Format) (c : CandRegs) (s : State) : State :=
  match c.best with
  | some b => s.commit (packCandidate fmt b) (rinfoWord fmt b.position false) (c.bestErr.getD 0) false
  | none => s.commit (fallbackBlock fmt) (rinfoWord fmt (fallbackPosition fmt) true) 0 true

/-- ENCODE (47_mode_selector.md R320). Reading a valid slot that was not written is the fault the spec asks of a model
(60_exceptions.md R427, 70_reset_and_hazards.md R463). -/
def execEncode (s : State) : Outcome :=
  match encodeChecks s.inputs with
  | .error e => .next (s.raise e)
  | .ok _ =>
    if tileWritten s.inputs then
      .next (s.commitSearch (cfgFormat s.inputs.cfg) (encodeSearch s.params s.inputs))
    else .fault .unwrittenPixel

end Sys2Proof.Machine
end

