-- ==== Sys2Proof/Machine/CmdUnits.lean ====
section
/-! DEFINITION. The completion steps of the unit commands. Each result is a function of the latched operands
(30_encoding.md R112): an error of its checks in the order of 60_exceptions.md R421, or the word for RES. -/

namespace Sys2Proof.Machine

/-- The result of H2W (40_half_float.md R164). -/
def h2wResult (r : RwRegs) : Except ErrCode Word := .ok (wordOfInt (h2wValue (cfgSigned r.cfg) (opHalf r)))

/-- H2W (40_half_float.md R164). -/
def execH2w (s : State) : Outcome := unitResult s (h2wResult s.inputs)

/-- The result of W2H (40_half_float.md R165). -/
def w2hResult (r : RwRegs) : Except ErrCode Word := .ok (wordOf (w2hValue (cfgSigned r.cfg) (opaS32 r)))

/-- W2H (40_half_float.md R165). -/
def execW2h (s : State) : Outcome := unitResult s (w2hResult s.inputs)

/-- The result of QUANT6 (44_quantizer.md R250). -/
def quant6Result (r : RwRegs) : Except ErrCode Word :=
  if bc6hPrecs.contains (opPrec6 r) then .ok (wordOfInt (q6 (cfgSigned r.cfg) (opaS32 r) (opPrec6 r)))
  else .error .badPrec

/-- QUANT6 (44_quantizer.md R250). -/
def execQuant6 (s : State) : Outcome := unitResult s (quant6Result s.inputs)

/-- The result of UNQUANT6 (44_quantizer.md R251). -/
def unquant6Result (r : RwRegs) : Except ErrCode Word :=
  if !bc6hPrecs.contains (opPrec6 r) then .error .badPrec
  else if !code6InRange (cfgSigned r.cfg) (opaS32 r) (opPrec6 r) then .error .badOperand
  else .ok (wordOfInt (uq6 (cfgSigned r.cfg) (opaS32 r) (opPrec6 r)))

/-- UNQUANT6 (44_quantizer.md R251). -/
def execUnquant6 (s : State) : Outcome := unitResult s (unquant6Result s.inputs)

/-- The result of FINISH6 (44_quantizer.md R252). -/
def finish6Result (r : RwRegs) : Except ErrCode Word :=
  if finishInRange (cfgSigned r.cfg) (opaS32 r) then .ok (wordOfInt (fin6 (cfgSigned r.cfg) (opaS32 r)))
  else .error .badOperand

/-- FINISH6 (44_quantizer.md R252). -/
def execFinish6 (s : State) : Outcome := unitResult s (finish6Result s.inputs)

/-- The result of QUANT7 (44_quantizer.md R258). -/
def quant7Result (r : RwRegs) : Except ErrCode Word :=
  if decide (4 ≤ opBits7 r + opPen r ∧ opBits7 r + opPen r ≤ 8) then
    if opPen r = 0 then .ok (wordOf (q7 (opaS32 r) (opBits7 r)))
    else .ok (wordOf (q7p (opaS32 r) (opBits7 r) (opPbit r)))
  else .error .badPrec

/-- QUANT7 (44_quantizer.md R258). -/
def execQuant7 (s : State) : Outcome := unitResult s (quant7Result s.inputs)

/-- The result of EXPAND7 (44_quantizer.md R259). -/
def expand7Result (r : RwRegs) : Except ErrCode Word :=
  if !decide (4 ≤ opWidth7 r ∧ opWidth7 r ≤ 8) then .error .badPrec
  else if opaU32 r ≥ 2 ^ opWidth7 r then .error .badOperand
  else .ok (wordOf (expand (opaU32 r) (opWidth7 r)))

/-- EXPAND7 (44_quantizer.md R259). -/
def execExpand7 (s : State) : Outcome := unitResult s (expand7Result s.inputs)

/-- The result of WEIGHT (45_palette.md R284). -/
def weightResult (r : RwRegs) : Except ErrCode Word :=
  if !indexBitsLegal (opWeightBits r) then .error .badPrec
  else if opbU32 r ≥ 2 ^ opWeightBits r then .error .badOperand
  else .ok (wordOf (weight (opWeightBits r) (opbU32 r)))

/-- WEIGHT (45_palette.md R284). -/
def execWeight (s : State) : Outcome := unitResult s (weightResult s.inputs)

/-- The result of LERP (45_palette.md R285). -/
def lerpResult (r : RwRegs) : Except ErrCode Word :=
  if !indexBitsLegal (opLerpBits r) then .error .badPrec
  else if opLerpIndex r ≥ 2 ^ opLerpBits r ∨ (opaS32 r).natAbs > 65535 ∨ (opbS32 r).natAbs > 65535 then
    .error .badOperand
  else .ok (wordOfInt (lerp (opaS32 r) (opbS32 r) (weight (opLerpBits r) (opLerpIndex r))))

/-- LERP (45_palette.md R285). -/
def execLerp (s : State) : Outcome := unitResult s (lerpResult s.inputs)

/-- The result of SHAPE (42_partition_lut.md R206). -/
def shapeResult (r : RwRegs) : Except ErrCode Word :=
  if shapeInTable (opRegions r) (opbU32 r) then .ok (wordOf (shapeWord (opRegions r) (opbU32 r))) else .error .badShape

/-- SHAPE (42_partition_lut.md R206). -/
def execShape (s : State) : Outcome := unitResult s (shapeResult s.inputs)

/-- The result of ANCHOR (42_partition_lut.md R207). -/
def anchorResult (r : RwRegs) : Except ErrCode Word :=
  if shapeInTable (opRegions r) (opbU32 r) then .ok (wordOf (anchorWord (opRegions r) (opbU32 r))) else .error .badShape

/-- ANCHOR (42_partition_lut.md R207). -/
def execAnchor (s : State) : Outcome := unitResult s (anchorResult s.inputs)

/-- The result of DELTA6 (44_quantizer.md R249): the stored delta in RES[15:0] and the overflow in RES[31]. -/
def delta6Result (r : RwRegs) : Except ErrCode Word :=
  let d := opbS32 r - opaS32 r
  let db := opDeltaBits r
  if decide (1 ≤ db ∧ db ≤ 16) then
    .ok (wordOf (packFields [(16, deltaStored d db), (15, 0), (1, if deltaFits d db then 0 else 1)]))
  else .error .badPrec

/-- DELTA6 (44_quantizer.md R249). -/
def execDelta6 (s : State) : Outcome := unitResult s (delta6Result s.inputs)

end Sys2Proof.Machine
end

