-- ==== Sys2Proof/Machine/Dispatch.lean ====
section
/-! DEFINITION. exec: one arm per row of the opcode table. -/

namespace Sys2Proof.Machine

def exec (i : Instr) (s : State) : Host.Outcome State Fault Refusal :=
  match i with
  | .nop => Sys2Proof.Machine.execNop s
  | .encode => Sys2Proof.Machine.execEncode s
  | .getmode => Sys2Proof.Machine.execGetmode s
  | .sreset => Sys2Proof.Machine.execSreset s
  | .h2w => Sys2Proof.Machine.execH2w s
  | .w2h => Sys2Proof.Machine.execW2h s
  | .quant6 => Sys2Proof.Machine.execQuant6 s
  | .unquant6 => Sys2Proof.Machine.execUnquant6 s
  | .finish6 => Sys2Proof.Machine.execFinish6 s
  | .quant7 => Sys2Proof.Machine.execQuant7 s
  | .expand7 => Sys2Proof.Machine.execExpand7 s
  | .weight => Sys2Proof.Machine.execWeight s
  | .lerp => Sys2Proof.Machine.execLerp s
  | .shape => Sys2Proof.Machine.execShape s
  | .anchor => Sys2Proof.Machine.execAnchor s
  | .delta6 => Sys2Proof.Machine.execDelta6 s
  | .reservedCmd w => Sys2Proof.Machine.execReservedCmd w s
  | .bc7Mode0 b => Sys2Proof.Machine.execBc7Mode0 b s
  | .bc7Mode1 b => Sys2Proof.Machine.execBc7Mode1 b s
  | .bc7Mode2 b => Sys2Proof.Machine.execBc7Mode2 b s
  | .bc7Mode3 b => Sys2Proof.Machine.execBc7Mode3 b s
  | .bc7Mode4 b => Sys2Proof.Machine.execBc7Mode4 b s
  | .bc7Mode5 b => Sys2Proof.Machine.execBc7Mode5 b s
  | .bc7Mode6 b => Sys2Proof.Machine.execBc7Mode6 b s
  | .bc7Mode7 b => Sys2Proof.Machine.execBc7Mode7 b s
  | .bc7Reserved rest => Sys2Proof.Machine.execBc7Reserved rest s
  | .bc6hMode1 b => Sys2Proof.Machine.execBc6hMode1 b s
  | .bc6hMode2 b => Sys2Proof.Machine.execBc6hMode2 b s
  | .bc6hMode3 b => Sys2Proof.Machine.execBc6hMode3 b s
  | .bc6hMode4 b => Sys2Proof.Machine.execBc6hMode4 b s
  | .bc6hMode5 b => Sys2Proof.Machine.execBc6hMode5 b s
  | .bc6hMode6 b => Sys2Proof.Machine.execBc6hMode6 b s
  | .bc6hMode7 b => Sys2Proof.Machine.execBc6hMode7 b s
  | .bc6hMode8 b => Sys2Proof.Machine.execBc6hMode8 b s
  | .bc6hMode9 b => Sys2Proof.Machine.execBc6hMode9 b s
  | .bc6hMode10 b => Sys2Proof.Machine.execBc6hMode10 b s
  | .bc6hMode11 b => Sys2Proof.Machine.execBc6hMode11 b s
  | .bc6hMode12 b => Sys2Proof.Machine.execBc6hMode12 b s
  | .bc6hMode13 b => Sys2Proof.Machine.execBc6hMode13 b s
  | .bc6hMode14 b => Sys2Proof.Machine.execBc6hMode14 b s
  | .bc6hReserved13 rest => Sys2Proof.Machine.execBc6hReserved13 rest s
  | .bc6hReserved17 rest => Sys2Proof.Machine.execBc6hReserved17 rest s
  | .bc6hReserved1B rest => Sys2Proof.Machine.execBc6hReserved1B rest s
  | .bc6hReserved1F rest => Sys2Proof.Machine.execBc6hReserved1F rest s

end Sys2Proof.Machine
end

