-- ==== Sys2Proof/Machine/HostPort.lean ====
section
/-! DEFINITION. What the outside does to CORE: when a bus access can be performed, a POLL, the hardware reset input, and
the host program syntax of 30_encoding.md R138, R139 as lists of accesses. -/

namespace Sys2Proof.Machine

/-- Why a bus access has no step at the window at `base` (20_memory.md R80, R83): `none` if CORE defines it. -/
def accessStop (base addr bytes : Nat) : Option Fault :=
  match offsetIn base addr with
  | none => some .outsideWindow
  | some off => if accessDefined off bytes then none else some .stuckAccess

/-- Why the next thing the host does has no step at the window at `base`, `none` if it has one. -/
def HostEvent.stop (base : Nat) : HostEvent → Option Fault
  | .write addr bytes _ => accessStop base addr bytes
  | .read addr bytes => accessStop base addr bytes
  | .poll addr => accessStop base addr 4
  | .refDecode _ _ => none

/-- The bus address of an access, `none` for a request to the reference decoder. -/
def HostEvent.addr : HostEvent → Option Nat
  | .write addr _ _ => some addr
  | .read addr _ => some addr
  | .poll addr => some addr
  | .refDecode _ _ => none

/-- One read by a POLL (30_encoding.md R138): the POLL stays the host's next access while BUSY = 1 in what it reads. -/
def State.pollOnce (addr : Nat) (s : State) : State :=
  let off := addr - s.params.coreBase
  let s' := s.busRead off
  if statusBusy (s.busValue off) then { s' with host := .poll addr :: s.host } else s'

/-- What a bus access or a POLL inside the window does, taken off the input list already: it reaches the register at
its address less CORE_BASE (20_memory.md R80). A request to the reference decoder is no access to CORE: the step
executes its block. -/
def State.perform (s : State) : HostEvent → State
  | .write addr _ v => s.busWrite (addr - s.params.coreBase) v
  | .read addr _ => s.busRead (addr - s.params.coreBase)
  | .poll addr => s.pollOnce addr
  | .refDecode _ _ => s

/-- Is the hardware reset input asserted in the coming step (70_reset_and_hazards.md R451)? -/
def State.resetAsserted (s : State) : Bool := s.resetIn.headD false

/-- The coming step's level of the hardware reset input is past. -/
def State.pastReset (s : State) : State := { s with resetIn := s.resetIn.tail }

/-! ### Host programs -/

/-- `W <REG>, <value>` (30_encoding.md R138) to the window at `base`. -/
def hostW (base : Nat) (r : Reg) (v : Word) : HostEvent := .write (base + r.offset) 4 v

/-- `R <REG>` (30_encoding.md R138). -/
def hostR (base : Nat) (r : Reg) : HostEvent := .read (base + r.offset) 4

/-- `POLL` (30_encoding.md R138). -/
def hostPoll (base : Nat) : HostEvent := .poll (base + Reg.status.offset)

/-- `DO <cmd>` (30_encoding.md R139). -/
def hostDo (base : Nat) (cmdWord : Word) : List HostEvent := [hostW base .cmd cmdWord, hostPoll base]

/-- `WPIX i, c0, c1, c2, c3` (30_encoding.md R139). -/
def hostWPix (base : Nat) (i : Fin 16) (c0 c1 c2 c3 : BitVec 16) : List HostEvent :=
  [hostW base (.pixLo i) (c1 ++ c0), hostW base (.pixHi i) (c3 ++ c2)]

/-- `WRGBA i, r, g, b, a` (30_encoding.md R139): BC7 8-bit channels. -/
def hostWRgba (base : Nat) (i : Fin 16) (r g b a : Byte) : List HostEvent :=
  hostWPix base i (r.setWidth 16) (g.setWidth 16) (b.setWidth 16) (a.setWidth 16)

/-- `WHALF i, r, g, b` (30_encoding.md R139): BC6H half bit patterns. -/
def hostWHalf (base : Nat) (i : Fin 16) (r g b : BitVec 16) : List HostEvent := hostWPix base i r g b 0

/-- `FILL c0, c1, c2, c3` (30_encoding.md R139): the same pixel in every slot. -/
def hostFill (base : Nat) (c0 c1 c2 c3 : BitVec 16) : List HostEvent :=
  (List.finRange 16).flatMap fun i => hostWPix base i c0 c1 c2 c3

/-- `ROUT` (30_encoding.md R139). -/
def hostRout (base : Nat) : List HostEvent := (List.finRange 4).map fun k => hostR base (.out k)

end Sys2Proof.Machine
end

