-- ==== Sys2Proof/Machine/Sequence.lean ====
section
/-! DEFINITION. What one step does while the hardware reset input is not asserted: the completion step of the running
command once its free latency has passed, else the next thing the host does. -/

namespace Sys2Proof.Machine

/-- The next thing the host does, taken off the input list. A request to the reference decoder decodes the block and
executes it. -/
def hostStep (e : HostEvent) (s : State) : Outcome :=
  match e with
  | .refDecode fmt blk => exec (decodeBlock fmt blk) s
  | e => .next (s.perform e)

/-- The host's next access has no step and CORE is idle: the host is stuck (60_exceptions.md R428). Time passes while a
hardware reset is still to come (70_reset_and_hazards.md R451), and else nothing can happen any more (log 12). -/
def stuckStep (f : Fault) (s : State) : Outcome := if s.resetIn.contains true then .next s else .fault f

/-- One step while CORE runs a command: its completion step when `left` is 0 (`exec` of the decoded PENDING word), else
time passes and the host moves, unless its next access has no step (log 12). -/
def busyStep (r : Running) (s : State) : Outcome :=
  if r.left = 0 then exec (decodeCmd r.pending) s
  else match s.host with
    | [] => .next s.tick
    | e :: es => if (e.stop s.params.coreBase).isSome then .next s.tick else hostStep e { s.tick with host := es }

/-- One step while CORE is idle: the host moves; with nothing to do CORE waits (70_reset_and_hazards.md R450,
60_exceptions.md R444). -/
def idleStep (s : State) : Outcome :=
  match s.host with
  | [] => .next s
  | e :: es => match e.stop s.params.coreBase with
    | some f => stuckStep f s
    | none => hostStep e { s with host := es }

/-- One step while the hardware reset input is not asserted (10_state.md R45). -/
def runStep (s : State) : Outcome :=
  match s.seq with
  | .busy r => busyStep r s
  | .idle => idleStep s

end Sys2Proof.Machine
end

