-- ==== Sys2Proof/Machine/Step.lean ====
section
/-! DEFINITION. One step of the machine (10_state.md R30, R45, 70_reset_and_hazards.md R451, R470). -/

namespace Sys2Proof.Machine

/-- One step: the hardware reset if its input is asserted, at any time and before everything else
(70_reset_and_hazards.md R451, log 22), else what CORE and the host do. -/
def step (s : State) : Host.Outcome State Fault Refusal :=
  if s.resetAsserted then .next s.pastReset.hardReset else runStep s.pastReset

/-- `s` with an opcode-table row's word where the next step takes its instruction from, the reset input not asserted: a
command word is accepted with its completion step due, a block is the next request to the reference decoder of its
format (log 5, log 8). -/
def State.withFetchWord (s : State) (nbits w : Nat) : State :=
  let s' := { s with resetIn := [] }
  match tableEncoding nbits w with
  | .cmd => s'.acceptWith (BitVec.ofNat 32 (w % 2 ^ nbits)) 0
  | .bc7 => { s' with seq := .idle, host := .refDecode .bc7 (BitVec.ofNat 128 (w % 2 ^ nbits)) :: s.host }
  | .bc6h => { s' with seq := .idle, host := .refDecode .bc6h (BitVec.ofNat 128 (w % 2 ^ nbits)) :: s.host }

end Sys2Proof.Machine
end

