-- ==== Sys2Proof/Machine/Platform.lean ====
section
/-! DEFINITION. A platform with several CORE machines on one bus (60_exceptions.md R441): each has its own window at its
own CORE_BASE and all of its own state, and nothing is shared. The free values of a machine belong to its CORE_BASE, so
two machines of a platform whose windows differ draw unrelated ones (log 3). Log 17. -/

namespace Sys2Proof.Machine

/-- A platform: its machines (N_CORES is their number, CORE_BASE a parameter of each) and what its host will still do,
in order. A machine's own input list is empty between steps. -/
structure Platform where
  cores : List State
  host : List HostEvent
deriving DecidableEq, Repr

/-- Who moves in a step of a platform: machine `k` by itself, or the host with its next access. Every order is
admitted (93_implementation_defined.md I9). -/
inductive Turn where
  | core (k : Nat)
  | host
deriving DecidableEq, Repr

/-- Do two windows of 0x200 bytes overlap (20_memory.md R80)? -/
def windowsOverlap (a b : Nat) : Bool := decide (a < b + windowSize) && decide (b < a + windowSize)

/-- The base addresses make sense: 4-byte aligned, no two windows overlapping (92_eei_decisions.md, OPEN parameters). -/
def basesWf : List Nat → Bool
  | [] => true
  | b :: bs => b % 4 == 0 && bs.all (fun d => !windowsOverlap b d) && basesWf bs

/-- A platform has at least one machine, and base addresses that make sense (00_scope.md R7, 60_exceptions.md R441). -/
def Platform.wf (p : Platform) : Bool := !p.cores.isEmpty && basesWf (p.cores.map fun c => c.params.coreBase)

/-- Which machine answers a bus address: the one whose window holds it (20_memory.md R80, 60_exceptions.md R441: the
base address names an instance). -/
def Platform.routeAddr (p : Platform) (addr : Nat) : Option Nat :=
  p.cores.findIdx? fun c => (offsetIn c.params.coreBase addr).isSome

/-- Which machine a thing the host does concerns. A request to the reference decoder concerns the first (log 17). -/
def Platform.route (p : Platform) (e : HostEvent) : Option Nat :=
  match e.addr with
  | some addr => p.routeAddr addr
  | none => some 0

/-- Machine `k` takes its step with these host accesses before it; those it did not perform are the host's again. -/
def Platform.stepCore (p : Platform) (k : Nat) (es rest : List HostEvent) : Host.Outcome Platform Fault Refusal :=
  match p.cores[k]? with
  | none => .next p
  | some c => match step { c with host := es } with
    | .next t => .next { cores := p.cores.set k { t with host := [] }, host := t.host ++ rest }
    | .fault f => .fault f
    | .refused r => .refused r

/-- One step of a platform: machine `k` steps by itself, or the host's next access is routed to the machine whose
window holds its address and takes part in that machine's step. The other machines stand still. -/
def Platform.step (p : Platform) : Turn → Host.Outcome Platform Fault Refusal
  | .core k => p.stepCore k [] p.host
  | .host => match p.host with
    | [] => .next p
    | e :: es => match p.route e with
      | none => .fault .outsideWindow
      | some k => p.stepCore k [e] es

end Sys2Proof.Machine
end

