-- ==== Sys2Proof/Safety.lean ====
section
/-! DEFINITION. What a safe run keeps, in the terms the statements use: the shape of STATUS at a completion, the fields
that reserved bits leave, and the machine's invariant. -/

namespace Sys2Proof

open Sys2Proof.Machine

/-- STATUS at a completion without error (10_state.md R31): WIGN is as it was. -/
def CompletedOk (old new : Word) (fallback : Bool) : Prop :=
  statusBusy new = false ∧ statusDone new = true ∧ statusErr new = false ∧ statusErrCode new = 0 ∧
  statusWign new = statusWign old ∧ statusFallback new = fallback

/-- STATUS at a completion with an error (60_exceptions.md R424): WIGN is as it was. -/
def CompletedErr (old new : Word) (e : ErrCode) : Prop :=
  statusBusy new = false ∧ statusDone new = true ∧ statusErr new = true ∧ statusErrCode new = e.code ∧
  statusWign new = statusWign old ∧ statusFallback new = false

/-- The only changes from `s` to `t` are RES, STATUS and the sequencer's return to IDLE, STATUS as at a completion
without error. -/
def OnlyResChanged (s t : State) : Prop :=
  t = { s with res := t.res, status := t.status, seq := .idle } ∧ CompletedOk s.status t.status false

/-- The only changes from `s` to `t` are those of error entry (60_exceptions.md R424). -/
def OnlyErrorRaised (s t : State) (e : ErrCode) : Prop :=
  t = { s with status := t.status, seq := .idle } ∧ CompletedErr s.status t.status e

/-- The bits of a register a bus write stores while IDLE, `none` for a read-only register and for CMD, whose write
starts a command (20_memory.md R81, 10_state.md R33 to R44). -/
def Machine.Reg.storedBits : Reg → Option Word
  | .cfg => some cfgMask
  | .tiledim => some tiledimMask
  | .force => some forceMask
  | .imp _ => some impMask
  | .threshLo => some (BitVec.allOnes 32)
  | .threshHi => some (BitVec.allOnes 32)
  | .opa => some (BitVec.allOnes 32)
  | .opb => some (BitVec.allOnes 32)
  | .opc => some (BitVec.allOnes 32)
  | .bin _ => some (BitVec.allOnes 32)
  | .pixLo _ => some (BitVec.allOnes 32)
  | .pixHi _ => some (BitVec.allOnes 32)
  | .cmd => none
  | .status => none
  | .res => none
  | .rinfo => none
  | .rerrLo => none
  | .rerrHi => none
  | .out _ => none

/-- The reserved bits of the writable registers read 0 (10_state.md R50). -/
structure Machine.RwRegs.Clean (r : RwRegs) : Prop where
  cfg : r.cfg &&& cfgMask = r.cfg
  tiledim : r.tiledim &&& tiledimMask = r.tiledim
  force : r.force &&& forceMask = r.force
  imp : ∀ i : Fin 16, r.imp[i] &&& impMask = r.imp[i]

/-- The bits of STATUS that are not reserved (10_state.md R31). -/
def statusMask : Word := 0x3F7

/-- The bits of RINFO that are not reserved (10_state.md R39). -/
def rinfoMask : Word := 0xFFFF

/-- The parameters a machine can have (00_scope.md R7), with the constraints of the OPEN table of 92_eei_decisions.md:
FIT_ITERS and IMP_BOOST are positive, each mode order is a permutation of its format's modes, and the window is
aligned. DESIGN CHOICE (log 24): a multiplier above 5 is legal, although an effective weight then leaves the range
0..1275 of 41_tile.md R185. -/
structure Params.Legal (P : Params) : Prop where
  orderBc7 : P.modeOrderBc7.Perm [0, 1, 2, 3, 4, 5, 6, 7]
  orderBc6h : P.modeOrderBc6h.Perm [1, 2, 3, 4, 5, 6, 7, 8, 9, 10, 11, 12, 13, 14]
  iters : 0 < P.fitIters
  boost : 0 < P.impBoost
  base : P.coreBase % 4 = 0

/-- A fitter answers vectors of `n` channels (00_scope.md R8: any total function of the signature of
43_endpoint_fitter.md R220). -/
def Machine.TotalFitter (f : Fitter) : Prop :=
  ∀ n pts wts, (f n pts wts).1.length = n ∧ (f n pts wts).2.length = n

/-- The invariant of CORE: what every step keeps.
- the parameters are legal (00_scope.md R7);
- reserved bits read 0 (10_state.md R50), ERR says whether there is an error code, and codes 8 to 15 never appear
  (60_exceptions.md R420);
- STATUS.BUSY is the sequencer's state, and while busy DONE, ERR, ERRCODE and FALLBACK are clear (10_state.md R31);
- while busy CMD reads the accepted word and the writable registers equal their latched copy (R32, R46), and the
  candidate registers are there exactly for an ENCODE (R47);
- until an ENCODE has produced a block, RINFO, RERR and OUT read 0 (R39, R40, R41). -/
structure Machine.State.Inv (s : State) : Prop where
  params : s.params.Legal
  clean : s.rw.Clean
  statusReserved : s.status &&& statusMask = s.status
  errCode : statusErr s.status = true ↔ statusErrCode s.status ≠ 0
  codeKnown : statusErrCode s.status ≤ 7
  rinfoReserved : s.rinfo &&& rinfoMask = s.rinfo
  idleNotBusy : s.seq = .idle → statusBusy s.status = false
  busyStatus : ∀ r, s.seq = .busy r →
    statusBusy s.status = true ∧ statusDone s.status = false ∧ statusErr s.status = false ∧
    statusErrCode s.status = 0 ∧ statusFallback s.status = false
  latched : ∀ r, s.seq = .busy r → r.pending = s.cmd ∧ r.latched = s.rw ∧ (r.cand.isSome ↔ r.pending = 1)
  noBlockYet : fieldOf s.rinfo 0 1 = 0 →
    s.rinfo = 0 ∧ s.rerrLo = 0 ∧ s.rerrHi = 0 ∧ s.out = Vector.replicate 4 0

/-- An ENCODE of these inputs neither raises an error nor faults (47_mode_selector.md R320,
70_reset_and_hazards.md R463). -/
def encodeReady (r : RwRegs) : Prop := encodeChecks r = .ok () ∧ tileWritten r = true

end Sys2Proof
end

