-- ==== Sys2Proof/Certificates/Slice0/Obligations.lean ====
section
/-! DEFINITION. The statements for the provers. -/

open Sys2Proof Sys2Proof.Machine

/-- Each OPCODE of the command table with bits 31:8 zero decodes to the command the table names, and a few block words
decode to the row of their mode field. Cites 30_encoding.md R110, 30_encoding.md R130, 30_encoding.md R131,
30_encoding.md R132. -/
def Obligations.CommandWordsDecode : Prop :=
  decodeCmd 0x00 = .nop ∧ decodeCmd 0x01 = .encode ∧ decodeCmd 0x02 = .getmode ∧ decodeCmd 0x0F = .sreset ∧
  decodeCmd 0x10 = .h2w ∧ decodeCmd 0x11 = .w2h ∧ decodeCmd 0x12 = .quant6 ∧ decodeCmd 0x13 = .unquant6 ∧
  decodeCmd 0x14 = .finish6 ∧ decodeCmd 0x15 = .quant7 ∧ decodeCmd 0x16 = .expand7 ∧ decodeCmd 0x17 = .weight ∧
  decodeCmd 0x18 = .lerp ∧ decodeCmd 0x19 = .shape ∧ decodeCmd 0x1A = .anchor ∧ decodeCmd 0x1B = .delta6 ∧
  getMode7 0x000000000001E1E1E1E3FFFE0F83E010 = some 4 ∧ getMode7 0xFFFFFFFFFFFFFFFFFFFFFFFFFFFFFF00 = none ∧
  getMode6 0x000000000000000000000003DEF7BDE0 = some 1 ∧ getMode6 0xFF00FF00FF00FF0108421083DEF7BDE3 = some 11 ∧
  getMode6 0x13 = none

/-- A word with an OPCODE 0x03 to 0x0E or 0x1C to 0xFF, or with a nonzero bit in 31:8, decodes to the reserved row,
and executing it sets STATUS to an error completion with ERRCODE 1 and changes nothing else but the return of the
sequencer to IDLE. Cites R111. -/
def Obligations.ReservedWordsRaiseBadCmd : Prop :=
  ∀ (w : Word) (s : State),
    (3 ≤ w.toNat % 256 ∧ w.toNat % 256 ≤ 14) ∨ 28 ≤ w.toNat % 256 ∨ 256 ≤ w.toNat →
    decodeCmd w = .reservedCmd w ∧
    ∃ t, exec (.reservedCmd w) s = .next t ∧ OnlyErrorRaised s t .badCmd

/-- NOP completes with BUSY 0, DONE 1, ERR 0, ERRCODE 0 and leaves every other piece of state but the sequencer as it
was; run right after its acceptance it leaves STATUS = 0x00000002. Cites 30_encoding.md R113, R31. -/
def Obligations.NopCompletes : Prop :=
  ∀ s : State,
    (∃ t, exec .nop s = .next t ∧ t = { s with status := t.status, seq := .idle } ∧
      CompletedOk s.status t.status false) ∧
    ∀ n, ∃ t, exec .nop (s.acceptWith 0 n) = .next t ∧ t.status = 0x00000002

/-- SRESET writes the reset value to CFG, TILEDIM, THRESH, FORCE, OPA, OPB, OPC, RES, RINFO, RERR, OUT, BIN and IMP,
leaves PIX, its written marks and CMD as they were, and leaves STATUS = 0x00000002. That it clears a WIGN set while it
ran is the reading of log 11. Cites R452. -/
def Obligations.SresetRestoresRegisters : Prop :=
  ∀ s : State, ∃ t, exec .sreset s = .next t ∧
    t = { s with
      status := 0x00000002
      res := 0
      rinfo := 0
      rerrLo := 0
      rerrHi := 0
      out := #v[0, 0, 0, 0]
      seq := .idle
      rw := { s.rw with
        cfg := 0
        tiledim := 0x44
        threshLo := 0
        threshHi := 0
        force := 0
        opa := 0
        opb := 0
        opc := 0
        bin := #v[0, 0, 0, 0]
        imp := Vector.replicate 16 1 } }

/-- With CFG.FORMAT = 0, a block whose bits m:0 are 1 << m (m = 0..7) gives RES = m with no error, and a block with
bits 7:0 zero gives RES = 0xFFFFFFFF and raises RSVD_MODE; nothing else changes. Cites R371. -/
def Obligations.GetmodeReadsBc7Mode : Prop :=
  ∀ s : State, cfgFormat s.inputs.cfg = .bc7 →
    (∀ m, m < 8 → s.inputs.bin[0].toNat % 2 ^ (m + 1) = 2 ^ m →
      ∃ t, exec .getmode s = .next t ∧ OnlyResChanged s t ∧ t.res = BitVec.ofNat 32 m) ∧
    (s.inputs.bin[0].toNat % 256 = 0 →
      ∃ t, exec .getmode s = .next t ∧
        t = { s with res := 0xFFFFFFFF, status := t.status, seq := .idle } ∧ CompletedErr s.status t.status .rsvdMode)

/-- With CFG.FORMAT = 1, the two-bit fields 0b00 and 0b01 give RES = 1 and 2, the five-bit codes of modes 3 to 14 give
their modes, and 0x13, 0x17, 0x1B, 0x1F give RES = 0xFFFFFFFF and RSVD_MODE; nothing else changes. Cites R395. -/
def Obligations.GetmodeReadsBc6hMode : Prop :=
  ∀ s : State, cfgFormat s.inputs.cfg = .bc6h →
    (∀ m c, (m, c) ∈ [(1, 0), (2, 1)] → s.inputs.bin[0].toNat % 4 = c →
      ∃ t, exec .getmode s = .next t ∧ OnlyResChanged s t ∧ t.res = BitVec.ofNat 32 m) ∧
    (∀ m c, (m, c) ∈ [(3, 0x02), (4, 0x06), (5, 0x0A), (6, 0x0E), (7, 0x12), (8, 0x16), (9, 0x1A), (10, 0x1E),
        (11, 0x03), (12, 0x07), (13, 0x0B), (14, 0x0F)] → s.inputs.bin[0].toNat % 32 = c →
      ∃ t, exec .getmode s = .next t ∧ OnlyResChanged s t ∧ t.res = BitVec.ofNat 32 m) ∧
    (s.inputs.bin[0].toNat % 32 ∈ [0x13, 0x17, 0x1B, 0x1F] →
      ∃ t, exec .getmode s = .next t ∧
        t = { s with res := 0xFFFFFFFF, status := t.status, seq := .idle } ∧ CompletedErr s.status t.status .rsvdMode)

/-- H2W writes the sign-extended working value of OPA[15:0]: the magnitude bits clamped to 31743, for a pattern with
bit 15 set 0 under the unsigned and the negated magnitude under the signed format; it raises no error and changes
nothing else. Cites R161, R162, R164. -/
def Obligations.HalfToWorkingValue : Prop :=
  ∀ s : State, ∃ t, exec .h2w s = .next t ∧ OnlyResChanged s t ∧
    ∀ h, h = s.inputs.opa.toNat % 2 ^ 16 →
      t.res.toInt =
        if h < 2 ^ 15 then ((min h 31743 : Nat) : Int)
        else if cfgSigned s.inputs.cfg then -((min (h - 2 ^ 15) 31743 : Nat) : Int)
        else 0

/-- W2H writes clamp(v, 0, 31743) under the unsigned format, and under the signed one the sign bit with the magnitude
of clamp(v, -31743, 31743); the result is never an infinity, a NaN or -0, no error is raised and nothing else changes.
Cites R163, R165. -/
def Obligations.WorkingValueToHalf : Prop :=
  ∀ s : State, ∃ t, exec .w2h s = .next t ∧ OnlyResChanged s t ∧
    (cfgSigned s.inputs.cfg = false → (t.res.toNat : Int) = max 0 (min 31743 s.inputs.opa.toInt)) ∧
    (cfgSigned s.inputs.cfg = true → 0 ≤ s.inputs.opa.toInt → (t.res.toNat : Int) = min 31743 s.inputs.opa.toInt) ∧
    (cfgSigned s.inputs.cfg = true → s.inputs.opa.toInt < 0 →
      (t.res.toNat : Int) = 0x8000 + min 31743 (-s.inputs.opa.toInt)) ∧
    t.res.toNat % 2 ^ 15 ≤ 0x7BFF ∧ t.res.toNat ≠ 0x8000 ∧ t.res.toNat < 2 ^ 16

/-- At a precision of {6..12, 16}, QUANT6 writes the code of the clamped operand by the unsigned or the signed binning
law with the bias of precisions above 10; at any other precision it raises BAD_PREC. Nothing else changes. Cites R250.
-/
def Obligations.QuantizeBc6hCommand : Prop :=
  ∀ (s : State) (p : Nat), p = s.inputs.opb.toNat % 32 →
    (p ∈ [6, 7, 8, 9, 10, 11, 12, 16] →
      ∃ t, exec .quant6 s = .next t ∧ OnlyResChanged s t ∧
        (cfgSigned s.inputs.cfg = false →
          t.res.toInt = (max 0 (min 31743 s.inputs.opa.toInt) * 2 ^ p + (if p > 10 then 2 ^ (p - 1) - 1 else 0)) / 31744) ∧
        (cfgSigned s.inputs.cfg = true → 0 ≤ s.inputs.opa.toInt →
          t.res.toInt = (min 31743 s.inputs.opa.toInt * 2 ^ (p - 1) + (if p > 10 then 2 ^ (p - 1) - 1 else 0)) / 31744) ∧
        (cfgSigned s.inputs.cfg = true → s.inputs.opa.toInt < 0 →
          t.res.toInt =
            -((min 31743 (-s.inputs.opa.toInt) * 2 ^ (p - 1) + (if p > 10 then 2 ^ (p - 1) - 1 else 0)) / 31744))) ∧
    (p ∉ [6, 7, 8, 9, 10, 11, 12, 16] → ∃ t, exec .quant6 s = .next t ∧ OnlyErrorRaised s t .badPrec)

/-- At a legal precision and a code in range, UNQUANT6 writes the unquantized value (both formats, end codes at the
ends of the range); BAD_PREC comes before BAD_OPERAND. Nothing else changes. Cites R242, R243, R251. -/
def Obligations.UnquantizeBc6hCommand : Prop :=
  ∀ (s : State) (p : Nat) (q m : Int), p = s.inputs.opb.toNat % 32 → q = s.inputs.opa.toInt → m = max q (-q) →
    (p ∉ [6, 7, 8, 9, 10, 11, 12, 16] → ∃ t, exec .unquant6 s = .next t ∧ OnlyErrorRaised s t .badPrec) ∧
    (p ∈ [6, 7, 8, 9, 10, 11, 12, 16] → cfgSigned s.inputs.cfg = false →
      (¬(0 ≤ q ∧ q < 2 ^ p) → ∃ t, exec .unquant6 s = .next t ∧ OnlyErrorRaised s t .badOperand) ∧
      (0 ≤ q ∧ q < 2 ^ p → ∃ t, exec .unquant6 s = .next t ∧ OnlyResChanged s t ∧
        t.res.toInt =
          if p = 16 then q else if q = 0 then 0 else if q = 2 ^ p - 1 then 65535 else (q * 65536 + 32768) / 2 ^ p)) ∧
    (p ∈ [6, 7, 8, 9, 10, 11, 12, 16] → cfgSigned s.inputs.cfg = true →
      (¬(-2 ^ (p - 1) ≤ q ∧ q < 2 ^ (p - 1)) → ∃ t, exec .unquant6 s = .next t ∧ OnlyErrorRaised s t .badOperand) ∧
      (-2 ^ (p - 1) ≤ q ∧ q < 2 ^ (p - 1) → ∃ t, exec .unquant6 s = .next t ∧ OnlyResChanged s t ∧
        t.res.toInt =
          if p = 16 then q
          else if m = 0 then 0
          else if m ≥ 2 ^ (p - 1) - 1 then (if q < 0 then -32767 else 32767)
          else if q < 0 then -((m * 32768 + 16384) / 2 ^ (p - 1))
          else (m * 32768 + 16384) / 2 ^ (p - 1)))

/-- FINISH6 writes c * 31 / 64 rounded down (unsigned, c in [0, 65535]) or the magnitude * 31 / 32 rounded down with
the sign kept (signed, c in [-32768, 32767]), and raises BAD_OPERAND outside these. Nothing else changes. Cites R252.
-/
def Obligations.FinishBc6hCommand : Prop :=
  ∀ (s : State) (c : Int), c = s.inputs.opa.toInt →
    (cfgSigned s.inputs.cfg = false →
      (0 ≤ c ∧ c ≤ 65535 → ∃ t, exec .finish6 s = .next t ∧ OnlyResChanged s t ∧ t.res.toInt = c * 31 / 64) ∧
      (¬(0 ≤ c ∧ c ≤ 65535) → ∃ t, exec .finish6 s = .next t ∧ OnlyErrorRaised s t .badOperand)) ∧
    (cfgSigned s.inputs.cfg = true →
      (-32768 ≤ c ∧ c ≤ 32767 → ∃ t, exec .finish6 s = .next t ∧ OnlyResChanged s t ∧
        t.res.toInt = if c < 0 then -(-c * 31 / 32) else c * 31 / 32) ∧
      (¬(-32768 ≤ c ∧ c ≤ 32767) → ∃ t, exec .finish6 s = .next t ∧ OnlyErrorRaised s t .badOperand))

/-- With 4 <= n + PEN <= 8, QUANT7 writes the lowest code of n bits whose reconstruction (expand(c, n), or with the
p-bit expand(2c + P, n + 1)) is nearest to clamp(v, 0, 255), which is 0 for v < 0 and 2^n - 1 for v > 255; else it
raises BAD_PREC. Nothing else changes. Cites R258. -/
def Obligations.QuantizeBc7Nearest : Prop :=
  ∀ (s : State) (n pen P : Nat) (x : Int), n = s.inputs.opb.toNat % 16 → pen = s.inputs.opb.toNat / 256 % 2 →
    P = s.inputs.opb.toNat / 512 % 2 → x = max 0 (min 255 s.inputs.opa.toInt) →
    (4 ≤ n + pen ∧ n + pen ≤ 8 →
      ∃ t, exec .quant7 s = .next t ∧ OnlyResChanged s t ∧ t.res.toNat < 2 ^ n ∧
        (∀ d : Nat → Int, (∀ c, d c = if pen = 0 then (expand c n : Int) - x else (expand (2 * c + P) (n + 1) : Int) - x) →
          ∀ c, c < 2 ^ n → (d t.res.toNat).natAbs ≤ (d c).natAbs ∧
            ((d c).natAbs = (d t.res.toNat).natAbs → t.res.toNat ≤ c)) ∧
        (s.inputs.opa.toInt < 0 → t.res.toNat = 0) ∧
        (255 < s.inputs.opa.toInt → t.res.toNat = 2 ^ n - 1)) ∧
    (¬(4 ≤ n + pen ∧ n + pen ≤ 8) → ∃ t, exec .quant7 s = .next t ∧ OnlyErrorRaised s t .badPrec)

/-- With 4 <= N <= 8 and x < 2^N, EXPAND7 writes x for N = 8 and else x * 2^(8-N) + x / 2^(2N-8); a width outside 4..8
raises BAD_PREC, then x >= 2^N raises BAD_OPERAND. Nothing else changes. Cites R259. -/
def Obligations.ExpandBc7Command : Prop :=
  ∀ (s : State) (n x : Nat), n = s.inputs.opb.toNat % 16 → x = s.inputs.opa.toNat →
    (¬(4 ≤ n ∧ n ≤ 8) → ∃ t, exec .expand7 s = .next t ∧ OnlyErrorRaised s t .badPrec) ∧
    (4 ≤ n ∧ n ≤ 8 → 2 ^ n ≤ x → ∃ t, exec .expand7 s = .next t ∧ OnlyErrorRaised s t .badOperand) ∧
    (4 ≤ n ∧ n ≤ 8 → x < 2 ^ n → ∃ t, exec .expand7 s = .next t ∧ OnlyResChanged s t ∧
      t.res.toNat = if n = 8 then x else x * 2 ^ (8 - n) + x / 2 ^ (2 * n - 8))

/-- With b in {2, 3, 4} and j < 2^b, WEIGHT writes W_b[j]; b outside that set raises BAD_PREC, then j >= 2^b raises
BAD_OPERAND. Each table starts at 0, ends at 64, is strictly increasing, and W_b[j] + W_b[2^b - 1 - j] = 64. Cites
R280, R284. -/
def Obligations.WeightCommand : Prop :=
  (∀ (s : State) (b j : Nat), b = s.inputs.opa.toNat % 8 → j = s.inputs.opb.toNat →
    (b ∉ [2, 3, 4] → ∃ t, exec .weight s = .next t ∧ OnlyErrorRaised s t .badPrec) ∧
    (b ∈ [2, 3, 4] → 2 ^ b ≤ j → ∃ t, exec .weight s = .next t ∧ OnlyErrorRaised s t .badOperand) ∧
    (b ∈ [2, 3, 4] → j < 2 ^ b → ∃ t, exec .weight s = .next t ∧ OnlyResChanged s t ∧ t.res.toNat =
      (if b = 2 then [0, 21, 43, 64] else if b = 3 then [0, 9, 18, 27, 37, 46, 55, 64]
       else [0, 4, 9, 13, 17, 21, 26, 30, 34, 38, 43, 47, 51, 55, 60, 64]).getD j 0)) ∧
  ∀ b ∈ [2, 3, 4], weight b 0 = 0 ∧ weight b (2 ^ b - 1) = 64 ∧
    (∀ j, j + 1 < 2 ^ b → weight b j < weight b (j + 1)) ∧
    ∀ j, j < 2 ^ b → weight b j + weight b (2 ^ b - 1 - j) = 64

/-- With b in {2, 3, 4}, j < 2^b and both endpoints in [-65535, 65535], LERP writes floor((e0 * (64 - w) + e1 * w +
32) / 64) for w = W_b[j]; BAD_PREC comes before BAD_OPERAND. Nothing else changes. Cites R281, R285. -/
def Obligations.LerpCommand : Prop :=
  (∀ (s : State) (b j : Nat) (e0 e1 : Int), b = s.inputs.opc.toNat % 8 → j = s.inputs.opc.toNat / 256 % 16 →
    e0 = s.inputs.opa.toInt → e1 = s.inputs.opb.toInt →
    (b ∉ [2, 3, 4] → ∃ t, exec .lerp s = .next t ∧ OnlyErrorRaised s t .badPrec) ∧
    (b ∈ [2, 3, 4] → 2 ^ b ≤ j ∨ 65535 < e0.natAbs ∨ 65535 < e1.natAbs →
      ∃ t, exec .lerp s = .next t ∧ OnlyErrorRaised s t .badOperand) ∧
    (b ∈ [2, 3, 4] → j < 2 ^ b → e0.natAbs ≤ 65535 → e1.natAbs ≤ 65535 →
      ∃ t, exec .lerp s = .next t ∧ OnlyResChanged s t ∧
        t.res.toInt = (e0 * (64 - (weight b j : Int)) + e1 * (weight b j : Int) + 32) / 64)) ∧
  ∀ e0 e1 : Int, lerp e0 e1 0 = e0 ∧ lerp e0 e1 64 = e1

/-- For a legal region count and shape, SHAPE writes the region of pixel i in bits 2i+1:2i; it raises BAD_SHAPE if ns
= 0, or ns = 1 and s is not 0, or ns is 2 or 3 and s > 63. Nothing else changes. Cites R206. -/
def Obligations.ShapeCommand : Prop :=
  ∀ (s : State) (ns sh : Nat), ns = s.inputs.opa.toNat % 4 → sh = s.inputs.opb.toNat →
    (ns = 0 ∨ (ns = 1 ∧ sh ≠ 0) ∨ (2 ≤ ns ∧ 63 < sh) →
      ∃ t, exec .shape s = .next t ∧ OnlyErrorRaised s t .badShape) ∧
    ((ns = 1 ∧ sh = 0) ∨ (2 ≤ ns ∧ sh ≤ 63) →
      ∃ t, exec .shape s = .next t ∧ OnlyResChanged s t ∧ (ns = 1 → t.res = 0) ∧
        ∀ i, i < 16 → t.res.toNat / 2 ^ (2 * i) % 4 = region ns sh i)

/-- For a legal region count and shape, ANCHOR writes the anchor of region k in bits 4k+3:4k and zero elsewhere; its
errors are those of SHAPE. Nothing else changes. Cites R207. -/
def Obligations.AnchorCommand : Prop :=
  ∀ (s : State) (ns sh : Nat), ns = s.inputs.opa.toNat % 4 → sh = s.inputs.opb.toNat →
    (ns = 0 ∨ (ns = 1 ∧ sh ≠ 0) ∨ (2 ≤ ns ∧ 63 < sh) →
      ∃ t, exec .anchor s = .next t ∧ OnlyErrorRaised s t .badShape) ∧
    ((ns = 1 ∧ sh = 0) ∨ (2 ≤ ns ∧ sh ≤ 63) →
      ∃ t, exec .anchor s = .next t ∧ OnlyResChanged s t ∧
        ∀ k, k < 8 → t.res.toNat / 2 ^ (4 * k) % 16 = (anchors ns sh).getD k 0)

/-- With db in 1..16, DELTA6 writes (b - a) mod 2^db in RES[15:0], 0 in RES[30:16] and the overflow in RES[31], set
exactly if b - a is outside [-2^(db-1), 2^(db-1)); else it raises BAD_PREC. Nothing else changes. Cites R249. -/
def Obligations.DeltaBc6hCommand : Prop :=
  ∀ (s : State) (db : Nat) (d : Int), db = s.inputs.opc.toNat % 32 → d = s.inputs.opb.toInt - s.inputs.opa.toInt →
    (¬(1 ≤ db ∧ db ≤ 16) → ∃ t, exec .delta6 s = .next t ∧ OnlyErrorRaised s t .badPrec) ∧
    (1 ≤ db ∧ db ≤ 16 → ∃ t, exec .delta6 s = .next t ∧ OnlyResChanged s t ∧
      ((t.res.toNat % 2 ^ 16 : Nat) : Int) = d % 2 ^ db ∧ t.res.toNat / 2 ^ 16 % 2 ^ 15 = 0 ∧
      (t.res.toNat / 2 ^ 31 = 0 ↔ -2 ^ (db - 1) ≤ d ∧ d < 2 ^ (db - 1)))

/-- On a machine with legal parameters, with ALPHA not 3, a legal tile, a legal forced candidate if one is forced, and
every valid slot written, ENCODE answers a next state in which only OUT, RINFO, RERR, STATUS and the sequencer change:
the packed winner with its error, and RINFO with VALID in bit 0, its MODE in 4:1, SHAPE in 10:5, ROT in 12:11, ISB in
13, FALLBACK 0 in 14, FORMAT in 15 and zeros above; or the fallback block with RERR 0, RINFO of mode 0 (BC7) or 1
(BC6H) with FALLBACK 1, and STATUS.FALLBACK set; STATUS is a completion without error. Cites 47_mode_selector.md R320,
47_mode_selector.md R333, 10_state.md R39. -/
def Obligations.EncodeCommits : Prop :=
  ∀ s : State, s.params.Legal → cfgAlpha s.inputs.cfg ≠ 3 → (1 ≤ tileW s.inputs.tiledim ∧ tileW s.inputs.tiledim ≤ 4) →
    (1 ≤ tileH s.inputs.tiledim ∧ tileH s.inputs.tiledim ≤ 4) →
    (forceEn s.inputs.force = true → forceConfigLegal s.inputs = true ∧ forceShapeLegal s.inputs = true) →
    (∀ i : Fin 16, i.val % 4 < tileW s.inputs.tiledim → i.val / 4 < tileH s.inputs.tiledim →
      s.inputs.wrLo[i] = true ∧ s.inputs.wrHi[i] = true) →
    ∃ t c, exec .encode s = .next t ∧ c = encodeSearch s.params s.inputs ∧
      t = { s with
        out := t.out, rinfo := t.rinfo, rerrLo := t.rerrLo, rerrHi := t.rerrHi, status := t.status, seq := .idle } ∧
      (∀ b, c.best = some b →
        t.out = wordsOfBlock (packCandidate (cfgFormat s.inputs.cfg) b) ∧
        fieldOf t.rinfo 0 1 = 1 ∧ fieldOf t.rinfo 1 4 = b.mode ∧ fieldOf t.rinfo 5 6 = b.shape ∧
        fieldOf t.rinfo 11 2 = b.rot ∧ fieldOf t.rinfo 13 1 = b.isb ∧ fieldOf t.rinfo 14 1 = 0 ∧
        fieldOf t.rinfo 15 1 = (if cfgFormat s.inputs.cfg = .bc7 then 0 else 1) ∧ fieldOf t.rinfo 16 16 = 0 ∧
        t.rerrLo.toNat + 2 ^ 32 * t.rerrHi.toNat = c.bestErr.getD 0 % 2 ^ 64 ∧
        CompletedOk s.status t.status false) ∧
      (c.best = none →
        t.out = wordsOfBlock (fallbackBlock (cfgFormat s.inputs.cfg)) ∧
        t.rinfo = (if cfgFormat s.inputs.cfg = .bc7 then 0x00004001 else 0x0000C003) ∧
        t.rerrLo = 0 ∧ t.rerrHi = 0 ∧ CompletedOk s.status t.status true)

/-- ALPHA = 3 raises BAD_CONFIG; else an illegal forced MODE, ROT or ISB raises BAD_CONFIG; else W or H outside 1..4
raises BAD_TILE_DIM; else an illegal forced SHAPE raises BAD_SHAPE. Each changes STATUS and the sequencer only. Cites
60_exceptions.md R421, 60_exceptions.md R424, 47_mode_selector.md R331, R180. -/
def Obligations.EncodeErrorOrder : Prop :=
  ∀ (s : State) (en : Bool) (mode shape rot isb : Nat) (badMode badDim badShape : Prop),
    en = forceEn s.inputs.force → mode = forceMode s.inputs.force → shape = forceShape s.inputs.force →
    rot = forceRot s.inputs.force → isb = forceIsb s.inputs.force →
    (badMode ↔ (cfgFormat s.inputs.cfg = .bc7 ∧
        (7 < mode ∨ (rot ≠ 0 ∧ mode ≠ 4 ∧ mode ≠ 5) ∨ (isb ≠ 0 ∧ mode ≠ 4))) ∨
      (cfgFormat s.inputs.cfg = .bc6h ∧ (mode = 0 ∨ 14 < mode ∨ rot ≠ 0 ∨ isb ≠ 0))) →
    (badDim ↔ tileW s.inputs.tiledim = 0 ∨ 4 < tileW s.inputs.tiledim ∨ tileH s.inputs.tiledim = 0 ∨
      4 < tileH s.inputs.tiledim) →
    (badShape ↔ (cfgFormat s.inputs.cfg = .bc7 ∧ ((mode = 0 ∧ 15 < shape) ∨ ((mode = 4 ∨ mode = 5 ∨ mode = 6) ∧ shape ≠ 0))) ∨
      (cfgFormat s.inputs.cfg = .bc6h ∧ ((mode ≤ 10 ∧ 31 < shape) ∨ (11 ≤ mode ∧ shape ≠ 0)))) →
    (cfgAlpha s.inputs.cfg = 3 → ∃ t, exec .encode s = .next t ∧ OnlyErrorRaised s t .badConfig) ∧
    (cfgAlpha s.inputs.cfg ≠ 3 → en = true → badMode →
      ∃ t, exec .encode s = .next t ∧ OnlyErrorRaised s t .badConfig) ∧
    (cfgAlpha s.inputs.cfg ≠ 3 → ¬(en = true ∧ badMode) → badDim →
      ∃ t, exec .encode s = .next t ∧ OnlyErrorRaised s t .badTileDim) ∧
    (cfgAlpha s.inputs.cfg ≠ 3 → en = true → ¬badMode → ¬badDim → badShape →
      ∃ t, exec .encode s = .next t ∧ OnlyErrorRaised s t .badShape)

/-- ENCODE answers the model fault exactly if its checks pass and some valid slot lacks the written mark of one of its
PIX words; an invalid slot that was never written is no fault. The fault outcome is the model's form of the fault mark
(log 13). Cites 60_exceptions.md R427, 70_reset_and_hazards.md R463. -/
def Obligations.EncodeFaultsOnUnwrittenSlot : Prop :=
  ∀ s : State, exec .encode s = .fault .unwrittenPixel ↔
    encodeChecks s.inputs = .ok () ∧ ∃ i : Fin 16, i.val % 4 < tileW s.inputs.tiledim ∧
      i.val / 4 < tileH s.inputs.tiledim ∧ ¬(s.inputs.wrLo[i] = true ∧ s.inputs.wrHi[i] = true)

/-- On a machine with legal parameters an ENCODE that passes its checks leaves a block in OUT0..3 whose mode field is
no reserved encoding and is the mode in RINFO.MODE. Cites 47_mode_selector.md R333, 30_encoding.md R137. -/
def Obligations.EncodeBlockNeverReserved : Prop :=
  ∀ s : State, s.params.Legal → encodeReady s.inputs →
    ∃ t, exec .encode s = .next t ∧
      blockMode (cfgFormat s.inputs.cfg) (blockOfWords t.out) = some (rinfoMode t.rinfo)

/-- With FORCE.EN = 0 an ENCODE that passes its checks finds a valid candidate, so that STATUS.FALLBACK and
RINFO.FALLBACK stay 0. Cites R329. -/
def Obligations.EncodeUnforcedHasWinner : Prop :=
  (∀ (f : Fitter) (boost : Nat) (r : RwRegs) (p : Position), cfgFormat r.cfg = .bc7 ∨ p.mode = 10 ∨ p.mode = 11 →
    ∃ e c, evalAt f r (prepareTile boost r) p = some (e, c)) ∧
  ∀ s : State, s.params.Legal → encodeReady s.inputs → forceEn s.inputs.force = false →
    (encodeSearch s.params s.inputs).best ≠ none ∧
    ∃ t, exec .encode s = .next t ∧ statusFallback t.status = false ∧ fieldOf t.rinfo 14 1 = 0

/-- When the forced BC6H candidate is INVALID, ENCODE completes without error with OUT = 0, RINFO = 0x0000C003, RERR =
0 and STATUS.FALLBACK set; the BC7 fallback, which no search reaches, is the mode-0 block OUT0 = 1 with RINFO =
0x00004001. Cites 47_mode_selector.md R332, 47_mode_selector.md R330. -/
def Obligations.InvalidForcedCandidateFallsBack : Prop :=
  (∀ s : State, encodeReady s.inputs → forceEn s.inputs.force = true → cfgFormat s.inputs.cfg = .bc6h →
    evalBc6h (fit s.params.fitIters) (prepareTile s.params.impBoost s.inputs) (cfgSigned s.inputs.cfg) (forcedPosition s.inputs.force) = none →
    ∃ t, exec .encode s = .next t ∧
      t = { s with
        out := #v[0, 0, 0, 0], rinfo := 0x0000C003, rerrLo := 0, rerrHi := 0, status := t.status, seq := .idle } ∧
      CompletedOk s.status t.status true) ∧
  ∀ (s : State) (c : CandRegs), c.best = none →
    (s.commitSearch .bc7 c).out = #v[1, 0, 0, 0] ∧ (s.commitSearch .bc7 c).rinfo = 0x00004001 ∧
    (s.commitSearch .bc7 c).rerrLo = 0 ∧ (s.commitSearch .bc7 c).rerrHi = 0 ∧
    CompletedOk s.status (s.commitSearch .bc7 c).status true

/-- With any fitter, a valid candidate with error E replaces BEST and BEST_ERR exactly if BEST is none or E <
BEST_ERR, an INVALID one never does. So, starting with no candidate, evaluating any list of positions in order leaves
BEST empty exactly if no candidate is valid, and else the candidate of the first position whose error no other valid
one undercuts, with that error in BEST_ERR. Cites R325. -/
def Obligations.SelectionKeepsFirstLeast : Prop :=
  (∀ (c d : CandRegs) (p : Position) (e : Nat) (b : Candidate), (c.best = none ↔ c.bestErr = none) →
    d = c.offer p (some (e, b)) →
    (c.best = none ∨ (∃ e', c.bestErr = some e' ∧ e < e') → d.best = some b ∧ d.bestErr = some e) ∧
    ((∃ e', c.bestErr = some e' ∧ e' ≤ e) → d.best = c.best ∧ d.bestErr = c.bestErr)) ∧
  (∀ (c : CandRegs) (p : Position), (c.offer p none).best = c.best ∧ (c.offer p none).bestErr = c.bestErr) ∧
  ∀ (f : Fitter) (r : RwRegs) (t : Tile) (ps : List Position) (c0 c : CandRegs), c0.best = none → c0.bestErr = none →
    c = evalPositions f r t ps c0 →
    (c.best = none ↔ ∀ p ∈ ps, evalAt f r t p = none) ∧ (c.best = none ↔ c.bestErr = none) ∧
    ∀ (b : Candidate) (e : Nat), c.best = some b → c.bestErr = some e →
      ∃ (j : Nat) (p : Position), ps[j]? = some p ∧ evalAt f r t p = some (e, b) ∧
        ∀ (k : Nat) (q : Position) (e' : Nat) (b' : Candidate), ps[k]? = some q → evalAt f r t q = some (e', b') →
          e ≤ e' ∧ (e' = e → j ≤ k)

/-- For any fitter and mode order: an unforced BC7 search evaluates every candidate of the first k modes of the order,
where k is the number of modes before the first check that finds EXHAUSTIVE = 0 and BEST_ERR < THRESH (all if none
does); an unforced BC6H search evaluates every candidate of every mode. The machine starts with the orders 4, 5, 6, 1,
3, 7, 0, 2 and 1 to 14; inside a mode shapes ascend, then rotations 0 to 3 (modes 4 and 5), then index selections 0, 1
(mode 4). The full lists have 285 and 324 candidates. The orders are parameters of the machine (log 15). Cites
47_mode_selector.md R322, 47_mode_selector.md R324, 47_mode_selector.md R328. -/
def Obligations.EarlyExitBetweenModes : Prop :=
  (∀ (f : Fitter) (P : Params) (r : RwRegs) (t : Tile), forceEn r.force = false → cfgFormat r.cfg = .bc7 →
    ∃ k, k ≤ P.modeOrderBc7.length ∧
      runSearch f P r t = evalPositions f r t ((P.modeOrderBc7.take k).flatMap positions7) (CandRegs.start P .bc7) ∧
      (k < P.modeOrderBc7.length →
        cfgExhaustive r.cfg = false ∧ ∃ e, (runSearch f P r t).bestErr = some e ∧ e < thresh r) ∧
      ∀ j e, j < k →
        (evalPositions f r t ((P.modeOrderBc7.take j).flatMap positions7) (CandRegs.start P .bc7)).bestErr = some e →
        cfgExhaustive r.cfg = true ∨ thresh r ≤ e) ∧
  (∀ (f : Fitter) (P : Params) (r : RwRegs) (t : Tile), forceEn r.force = false → cfgFormat r.cfg = .bc6h →
    runSearch f P r t = evalPositions f r t (P.modeOrderBc6h.flatMap positions6) (CandRegs.start P .bc6h)) ∧
  State.reset.params.modeOrderBc7 = [4, 5, 6, 1, 3, 7, 0, 2] ∧
  State.reset.params.modeOrderBc6h = [1, 2, 3, 4, 5, 6, 7, 8, 9, 10, 11, 12, 13, 14] ∧
  positions7 4 = [⟨4, 0, 0, 0⟩, ⟨4, 0, 0, 1⟩, ⟨4, 0, 1, 0⟩, ⟨4, 0, 1, 1⟩, ⟨4, 0, 2, 0⟩, ⟨4, 0, 2, 1⟩, ⟨4, 0, 3, 0⟩,
    ⟨4, 0, 3, 1⟩] ∧
  positions7 5 = [⟨5, 0, 0, 0⟩, ⟨5, 0, 1, 0⟩, ⟨5, 0, 2, 0⟩, ⟨5, 0, 3, 0⟩] ∧ positions7 6 = [⟨6, 0, 0, 0⟩] ∧
  (∀ m ∈ [1, 2, 3, 7], positions7 m = (List.range 64).map fun s => ⟨m, s, 0, 0⟩) ∧
  positions7 0 = ((List.range 16).map fun s => ⟨0, s, 0, 0⟩) ∧
  (∀ m, 1 ≤ m → m ≤ 10 → positions6 m = (List.range 32).map fun s => ⟨m, s, 0, 0⟩) ∧
  (∀ m ∈ [11, 12, 13, 14], positions6 m = [⟨m, 0, 0, 0⟩]) ∧
  (State.reset.params.modeOrderBc7.flatMap positions7).length = 285 ∧
  (State.reset.params.modeOrderBc6h.flatMap positions6).length = 324

/-- For the same inputs, any fitter, legal parameters and every THRESH, the unforced BC7 search with EXHAUSTIVE = 1
and with EXHAUSTIVE = 0 both find a winner, and the exhaustive winner has an error at most that of the heuristic one.
Cites R334. -/
def Obligations.ExhaustiveNeverWorse : Prop :=
  ∀ (f : Fitter) (P : Params) (r h x : RwRegs) (t : Tile), P.Legal → cfgFormat r.cfg = .bc7 → forceEn r.force = false →
    h = { r with cfg := r.cfg &&& 0xFFFFFFEF } → x = { r with cfg := r.cfg ||| 0x10 } → t = prepareTile P.impBoost r →
    prepareTile P.impBoost h = t ∧ prepareTile P.impBoost x = t ∧
    ∃ eh ex, (runSearch f P h t).bestErr = some eh ∧ (runSearch f P x t).bestErr = some ex ∧ ex ≤ eh ∧
      ∃ k, runSearch f P h t =
          evalPositions f x t ((P.modeOrderBc7.flatMap positions7).take k) (CandRegs.start P .bc7) ∧
        runSearch f P x t = evalPositions f x t (P.modeOrderBc7.flatMap positions7) (CandRegs.start P .bc7)

/-- On a machine with legal parameters, if every valid slot of a legal, written BC6H tile has the same working vector,
an unforced ENCODE completes with RERR = 0, under both numeric formats, whatever the weights. It holds of the
reference fit, which the model takes (log 15). Cites 47_mode_selector.md R336. -/
def Obligations.ConstantBc6hTileIsExact : Prop :=
  ∀ (s : State) (v : List Int), s.params.Legal → encodeReady s.inputs → cfgFormat s.inputs.cfg = .bc6h →
    forceEn s.inputs.force = false →
    (∀ i, i < 16 → slotValid s.inputs.tiledim i = true → workingVector s.inputs i = v) →
    ∃ t, exec .encode s = .next t ∧ t.rerrLo = 0 ∧ t.rerrHi = 0 ∧ statusErr t.status = false ∧
      statusFallback t.status = false

/-- With any fitter that answers vectors of the channels asked for, the stored fields of every valid candidate of both
formats fit the fields of their mode: codes, deltas and p-bits are in range, and every index at an anchor pixel has
its top bit 0. Cites 48_packer_bc7.md R368, 46_index_assign.md R307, 47_mode_selector.md R321, 44_quantizer.md R248.
-/
def Obligations.CandidateFieldsFitBlock : Prop :=
  (∀ (f : Fitter) (boost : Nat) (r : RwRegs) (m : Nat) (p : Position) (e : Nat) (c : Candidate), TotalFitter f →
    cfgFormat r.cfg = .bc7 → m < 8 →
    p ∈ positions7 m → evalAt f r (prepareTile boost r) p = some (e, c) → (candidateBlock7 c).wf m = true) ∧
  ∀ (f : Fitter) (boost : Nat) (r : RwRegs) (m : Nat) (p : Position) (e : Nat) (c : Candidate), TotalFitter f →
    cfgFormat r.cfg = .bc6h → 1 ≤ m → m ≤ 14 →
    p ∈ positions6 m → evalAt f r (prepareTile boost r) p = some (e, c) → (candidateBlock6 c).wf m = true

/-- With any fitter and multiplier, for every BC7 candidate, the error the selector minimises equals the importance-
and channel-weighted squared difference, over the valid slots and all four channels, between the tile and what the
reference decoder makes of the candidate's fields. The tile is the low byte of each channel, alpha 255 under ALPHA
None; the channel weights are a^2, a^2, a^2, 65025 under ALPHA Transparency and else 1; the importance weight is
IMP[7:0], times the multiplier if IMPMAP is set and a valid grid neighbour has the same vector. The multiplier is 5 in
the machine after reset. Cites 46_index_assign.md R306, 48_packer_bc7.md R370, 41_tile.md R181, 41_tile.md R183,
41_tile.md R184, 41_tile.md R185. -/
def Obligations.CandidateErrorIsDecodedError : Prop :=
  (∀ (f : Fitter) (boost : Nat) (r : RwRegs) (m : Nat) (p : Position) (e : Nat) (c : Candidate) (px : List (List Nat)),
    TotalFitter f → cfgFormat r.cfg = .bc7 → m < 8 → p ∈ positions7 m →
    evalAt f r (prepareTile boost r) p = some (e, c) → px = decode7 m (candidateBlock7 c) →
    e = ((pixels.filter fun i => slotValid r.tiledim i).map fun i =>
      effectiveWeight boost r i * ((List.range 4).map fun ch =>
        (channelWeights r i).getD ch 0 *
          ((((px.getD i []).getD ch 0 : Nat) : Int) - (tileVector r i).getD ch 0).natAbs ^ 2).sum).sum) ∧
  (∀ (r : RwRegs) (i : Fin 16) (a : Nat), cfgFormat r.cfg = .bc7 →
    a = (if cfgAlpha r.cfg = 0 then 255 else r.pixHi[i].toNat / 2 ^ 16 % 256) →
    tileVector r i = [((r.pixLo[i].toNat % 256 : Nat) : Int), ((r.pixLo[i].toNat / 2 ^ 16 % 256 : Nat) : Int),
      ((r.pixHi[i].toNat % 256 : Nat) : Int), (a : Int)] ∧
    channelWeights r i = (if cfgAlpha r.cfg = 1 then [a ^ 2, a ^ 2, a ^ 2, 65025] else [1, 1, 1, 1])) ∧
  (∀ (boost : Nat) (r : RwRegs) (i : Fin 16) (twin : Prop), cfgFormat r.cfg = .bc7 →
    (twin ↔ ∃ n : Fin 16, ((n.val / 4 = i.val / 4 ∧ (n.val % 4 + 1 = i.val % 4 ∨ n.val % 4 = i.val % 4 + 1)) ∨
        (n.val % 4 = i.val % 4 ∧ (n.val / 4 + 1 = i.val / 4 ∨ n.val / 4 = i.val / 4 + 1))) ∧
      n.val % 4 < tileW r.tiledim ∧ n.val / 4 < tileH r.tiledim ∧ tileVector r n = tileVector r i) →
    (cfgImpMap r.cfg = true ∧ twin → effectiveWeight boost r i = r.imp[i].toNat % 256 * boost) ∧
    (¬(cfgImpMap r.cfg = true ∧ twin) → effectiveWeight boost r i = r.imp[i].toNat % 256)) ∧
  State.reset.params.impBoost = 5

/-- With any fitter and multiplier, for every valid BC6H candidate, the error the selector minimises equals the
importance-weighted squared difference, in working values over R, G, B and the valid slots, between the tile and what
the reference decoder makes of the candidate's stored fields. The tile is the working value of C0, C1 and C2, under
every alpha mode with channel weights 1; the importance weight is IMP[7:0], times the multiplier if IMPMAP is set and
a valid grid neighbour has the same vector. The multiplier is 5 in the machine after reset. Cites 46_index_assign.md
R306, 49_packer_bc6h.md R396, 41_tile.md R182, 41_tile.md R183, 41_tile.md R184, 41_tile.md R185. -/
def Obligations.CandidateErrorIsDecodedErrorBc6h : Prop :=
  (∀ (f : Fitter) (boost : Nat) (r : RwRegs) (m : Nat) (p : Position) (e : Nat) (c : Candidate) (px : List (List Nat)),
    TotalFitter f → cfgFormat r.cfg = .bc6h → 1 ≤ m → m ≤ 14 → p ∈ positions6 m →
    evalAt f r (prepareTile boost r) p = some (e, c) → px = decode6 (cfgSigned r.cfg) m (candidateBlock6 c) →
    e = ((pixels.filter fun i => slotValid r.tiledim i).map fun i =>
      effectiveWeight boost r i * ((List.range 3).map fun ch =>
        (h2wValue (cfgSigned r.cfg) ((px.getD i []).getD ch 0) - (workingVector r i).getD ch 0).natAbs ^ 2).sum).sum) ∧
  (∀ (r : RwRegs) (i : Fin 16), cfgFormat r.cfg = .bc6h →
    tileVector r i = workingVector r i ∧
    workingVector r i = [h2wValue (cfgSigned r.cfg) (r.pixLo[i].toNat % 2 ^ 16),
      h2wValue (cfgSigned r.cfg) (r.pixLo[i].toNat / 2 ^ 16), h2wValue (cfgSigned r.cfg) (r.pixHi[i].toNat % 2 ^ 16)] ∧
    channelWeights r i = [1, 1, 1]) ∧
  (∀ (boost : Nat) (r : RwRegs) (i : Fin 16) (twin : Prop), cfgFormat r.cfg = .bc6h →
    (twin ↔ ∃ n : Fin 16, ((n.val / 4 = i.val / 4 ∧ (n.val % 4 + 1 = i.val % 4 ∨ n.val % 4 = i.val % 4 + 1)) ∨
        (n.val % 4 = i.val % 4 ∧ (n.val / 4 + 1 = i.val / 4 ∨ n.val / 4 = i.val / 4 + 1))) ∧
      n.val % 4 < tileW r.tiledim ∧ n.val / 4 < tileH r.tiledim ∧ tileVector r n = tileVector r i) →
    (cfgImpMap r.cfg = true ∧ twin → effectiveWeight boost r i = r.imp[i].toNat % 256 * boost) ∧
    (¬(cfgImpMap r.cfg = true ∧ twin) → effectiveWeight boost r i = r.imp[i].toNat % 256)) ∧
  State.reset.params.impBoost = 5

/-- With any fitter and IMP_BOOST at most 5, the error of every valid candidate of both formats is below 2^49. Cites
46_index_assign.md R303. -/
def Obligations.CandidateErrorBelow2Pow49 : Prop :=
  (∀ (f : Fitter) (boost : Nat) (r : RwRegs) (m : Nat) (p : Position) (e : Nat) (c : Candidate), TotalFitter f →
    boost ≤ 5 → cfgFormat r.cfg = .bc7 → m < 8 →
    p ∈ positions7 m → evalAt f r (prepareTile boost r) p = some (e, c) → e < 2 ^ 49) ∧
  ∀ (f : Fitter) (boost : Nat) (r : RwRegs) (m : Nat) (p : Position) (e : Nat) (c : Candidate), TotalFitter f →
    boost ≤ 5 → cfgFormat r.cfg = .bc6h → 1 ≤ m → m ≤ 14 →
    p ∈ positions6 m → evalAt f r (prepareTile boost r) p = some (e, c) → e < 2 ^ 49

/-- For any weights, pixel and palette, with a limit of at least one entry and at most the palette, the comparator's
index is below the limit, its error is that entry's weighted squared distance, no allowed entry is nearer, and no
lower index is as near. Cites R300. -/
def Obligations.ComparatorPicksFirstLeast : Prop :=
  ∀ (ww : List Nat) (v : List Int) (pal : List (List Int)) (lim j e : Nat), 0 < lim → lim ≤ pal.length →
    nearestEntry ww v pal lim = (j, e) →
    j < lim ∧ e = entryError ww v (pal.getD j []) ∧
    (∀ k, k < lim → e ≤ entryError ww v (pal.getD k []) ∧ (entryError ww v (pal.getD k []) = e → j ≤ k)) ∧
    ∀ n, ww.length = n → v.length = n → (pal.getD j []).length = n →
      (e : Int) = ((List.range n).map fun a =>
        (ww.getD a 0 : Int) * ((pal.getD j []).getD a 0 - v.getD a 0) ^ 2).sum

/-- For any number of iterations the fit of no points is a pair of zero vectors, and the fit of a nonempty list of
copies of one point, with any weights, is that point twice. Cites 43_endpoint_fitter.md R222, 43_endpoint_fitter.md
R225. -/
def Obligations.FitDegenerateRegion : Prop :=
  (∀ iters n wts, fit iters n [] wts = (List.replicate n 0, List.replicate n 0)) ∧
  ∀ (iters n k : Nat) (p : List Int) (wts : List Nat), p.length = n → 0 < k → wts.length = k →
    fit iters n (List.replicate k p) wts = (p.map fun x => (x : Rat), p.map fun x => (x : Rat))

/-- For one channel, a nonempty list of values and weights that are all positive or all zero, the fit answers the
region's minimum as A and its maximum as B, for any number of iterations. With some weights zero and some not, the
spec's rules differ where all weighted values are equal (log 23). Cites 43_endpoint_fitter.md R229. -/
def Obligations.FitScalarExtremes : Prop :=
  ∀ (iters : Nat) (vals : List Int) (wts : List Nat), vals ≠ [] → wts.length = vals.length → (∀ w ∈ wts, 0 < w) ∨ wts.sum = 0 →
    ∃ lo hi : Int, lo ∈ vals ∧ hi ∈ vals ∧ (∀ v ∈ vals, lo ≤ v ∧ v ≤ hi) ∧
      fit iters 1 (vals.map fun v => [v]) wts = ([(lo : Rat)], [(hi : Rat)])

/-- For every legal precision, the round trip through quantize, unquantize and finish maps 0 and F16MAX to themselves
under the unsigned format and -F16MAX, 0 and F16MAX under the signed one. Cites R246. -/
def Obligations.BoundaryExactness : Prop :=
  (∀ p ∈ [6, 7, 8, 9, 10, 11, 12, 16],
    fin6U (uq6U (q6U 0 p) p) = 0 ∧ fin6U (uq6U (q6U 31743 p) p) = 31743 ∧
    fin6S (uq6S (q6S (-31743) p) p) = -31743 ∧ fin6S (uq6S (q6S 0 p) p) = 0 ∧
    fin6S (uq6S (q6S 31743 p) p) = 31743) ∧
  uq6U (q6U 31743 10) 10 = 65535 ∧ fin6U 65535 = 31743

/-- H2W(W2H(v)) is v clamped to the working range for every integer v, and W2H(H2W(h)) = h for every non-negative
finite half in both formats and every negative finite half but -0 under the signed one. Cites 40_half_float.md R166.
-/
def Obligations.HalfRoundTrip : Prop :=
  (∀ v : Int, h2wValue false (w2hValue false v) = max 0 (min 31743 v) ∧
    h2wValue true (w2hValue true v) = max (-31743) (min 31743 v)) ∧
  (∀ (signed : Bool) (h : Nat), h ≤ 0x7BFF → w2hValue signed (h2wValue signed h) = h) ∧
  ∀ h : Nat, 0x8000 < h → h ≤ 0xFBFF → w2hValue true (h2wValue true h) = h

/-- In every shape of one, two and three regions pixel 0 is in region 0, each anchor lies in its region, every region
has a pixel of the 4x4 tile, and the anchors of a shape are distinct. Cites R204. -/
def Obligations.PartitionTableInvariants : Prop :=
  ∀ (ns s : Nat), (ns = 1 ∧ s = 0) ∨ ((ns = 2 ∨ ns = 3) ∧ s < 64) →
    region ns s 0 = 0 ∧ (anchors ns s).length = ns ∧ (anchors ns s).Nodup ∧
    (∀ k, k < ns → region ns s ((anchors ns s).getD k 0) = k ∧ (anchors ns s).getD k 0 < 16) ∧
    (∀ k, k < ns → ∃ i, i < 16 ∧ region ns s i = k) ∧ ∀ i, i < 16 → region ns s i < ns

/-- For every BC7 mode and shape the field widths sum to 128. For every BC6H mode the header layout takes L bits,
places each bit of the mode field, shape and every endpoint field exactly once, and with the index fields fills 128
bits for every shape. Cites 48_packer_bc7.md R363, 49_packer_bc6h.md R390, 49_packer_bc6h.md R392, R136. -/
def Obligations.BlockLayoutsFill128 : Prop :=
  (∀ m s, m < 8 → s < bc7Shapes m →
    (m + 1) + (bc7Mode m).pb + (bc7Mode m).rb + (bc7Mode m).isb + bc7CodeCount m * (bc7Mode m).cb +
      (bc7AlphaWidths m).sum + bc7PbitCount m + (bc7Index1Widths m s).sum + (bc7Index2Widths m).sum = 128) ∧
  ∀ m, 1 ≤ m → m ≤ 14 →
    ((bc6hLayout m).map Seg6.width).sum = (bc6hMode m).headerLen ∧
    (∀ s, s < bc6hShapes m → (bc6hMode m).headerLen + (bc6hIndexWidths m s).sum = 128) ∧
    ∀ f w, (f, w) ∈ [(Field6.m, if m ≤ 2 then 2 else 5), (Field6.d, if m ≤ 10 then 5 else 0)] ++
        (endFields.take ((bc6hMode m).ns * 6)).zip (bc6hEndWidths m) →
      ∀ j, j < w → ((bc6hLayout m).filter fun g => g.f == f && decide (g.lo ≤ j ∧ j ≤ g.hi)).length = 1

/-- Executing a BC7 block row answers a next state in which only the reference decoder's answer changes: mode m with
the decoded tile of mode m, or a decode error and no pixels for a reserved block. That a block row stands for the
reference decoder is the model's choice of log 7. Cites 48_packer_bc7.md R370, 48_packer_bc7.md R372. -/
def Obligations.Bc7RowsDecode : Prop :=
  ∀ (s : State) (b : Block7) (rest : BitVec 120),
    exec (.bc7Mode0 b) s = .next { s with refOut := .tile .bc7 0 (decode7 0 b) } ∧
    exec (.bc7Mode1 b) s = .next { s with refOut := .tile .bc7 1 (decode7 1 b) } ∧
    exec (.bc7Mode2 b) s = .next { s with refOut := .tile .bc7 2 (decode7 2 b) } ∧
    exec (.bc7Mode3 b) s = .next { s with refOut := .tile .bc7 3 (decode7 3 b) } ∧
    exec (.bc7Mode4 b) s = .next { s with refOut := .tile .bc7 4 (decode7 4 b) } ∧
    exec (.bc7Mode5 b) s = .next { s with refOut := .tile .bc7 5 (decode7 5 b) } ∧
    exec (.bc7Mode6 b) s = .next { s with refOut := .tile .bc7 6 (decode7 6 b) } ∧
    exec (.bc7Mode7 b) s = .next { s with refOut := .tile .bc7 7 (decode7 7 b) } ∧
    exec (.bc7Reserved rest) s = .next { s with refOut := .decodeError }

/-- Executing a BC6H block row answers a next state in which only the reference decoder's answer changes: mode m with
the decoded tile of mode m under CFG.NUMFMT, or a decode error and no pixels for a reserved mode field. That a block
row stands for the reference decoder is the model's choice of log 7. Cites 49_packer_bc6h.md R396. -/
def Obligations.Bc6hRowsDecode : Prop :=
  ∀ (s : State) (b : Block6) (rest : BitVec 123),
    exec (.bc6hMode1 b) s = .next { s with refOut := .tile .bc6h 1 (decode6 (cfgSigned s.rw.cfg) 1 b) } ∧
    exec (.bc6hMode2 b) s = .next { s with refOut := .tile .bc6h 2 (decode6 (cfgSigned s.rw.cfg) 2 b) } ∧
    exec (.bc6hMode3 b) s = .next { s with refOut := .tile .bc6h 3 (decode6 (cfgSigned s.rw.cfg) 3 b) } ∧
    exec (.bc6hMode4 b) s = .next { s with refOut := .tile .bc6h 4 (decode6 (cfgSigned s.rw.cfg) 4 b) } ∧
    exec (.bc6hMode5 b) s = .next { s with refOut := .tile .bc6h 5 (decode6 (cfgSigned s.rw.cfg) 5 b) } ∧
    exec (.bc6hMode6 b) s = .next { s with refOut := .tile .bc6h 6 (decode6 (cfgSigned s.rw.cfg) 6 b) } ∧
    exec (.bc6hMode7 b) s = .next { s with refOut := .tile .bc6h 7 (decode6 (cfgSigned s.rw.cfg) 7 b) } ∧
    exec (.bc6hMode8 b) s = .next { s with refOut := .tile .bc6h 8 (decode6 (cfgSigned s.rw.cfg) 8 b) } ∧
    exec (.bc6hMode9 b) s = .next { s with refOut := .tile .bc6h 9 (decode6 (cfgSigned s.rw.cfg) 9 b) } ∧
    exec (.bc6hMode10 b) s = .next { s with refOut := .tile .bc6h 10 (decode6 (cfgSigned s.rw.cfg) 10 b) } ∧
    exec (.bc6hMode11 b) s = .next { s with refOut := .tile .bc6h 11 (decode6 (cfgSigned s.rw.cfg) 11 b) } ∧
    exec (.bc6hMode12 b) s = .next { s with refOut := .tile .bc6h 12 (decode6 (cfgSigned s.rw.cfg) 12 b) } ∧
    exec (.bc6hMode13 b) s = .next { s with refOut := .tile .bc6h 13 (decode6 (cfgSigned s.rw.cfg) 13 b) } ∧
    exec (.bc6hMode14 b) s = .next { s with refOut := .tile .bc6h 14 (decode6 (cfgSigned s.rw.cfg) 14 b) } ∧
    exec (.bc6hReserved13 rest) s = .next { s with refOut := .decodeError } ∧
    exec (.bc6hReserved17 rest) s = .next { s with refOut := .decodeError } ∧
    exec (.bc6hReserved1B rest) s = .next { s with refOut := .decodeError } ∧
    exec (.bc6hReserved1F rest) s = .next { s with refOut := .decodeError }

/-- For every well-formed block of every BC7 mode, decode7 gives sixteen vectors of four channels, each at most 255,
and alpha is 255 in modes 0 to 3. Cites 48_packer_bc7.md R370, 45_palette.md R282. -/
def Obligations.DecodedBc7PixelsAre8Bit : Prop :=
  ∀ (m : Nat) (b : Block7), m < 8 → b.wf m = true →
    (decode7 m b).length = 16 ∧
    ∀ px ∈ decode7 m b, px.length = 4 ∧ (∀ v ∈ px, v ≤ 255) ∧ (m ≤ 3 → px.getD 3 0 = 255)

/-- decode6 gives sixteen vectors of three half patterns, each with a finite magnitude and none of them -0; under the
unsigned format bit 15 is 0. Cites 49_packer_bc6h.md R397. -/
def Obligations.DecodedBc6hPixelsAreFinite : Prop :=
  ∀ (signed : Bool) (m : Nat) (b : Block6),
    (decode6 signed m b).length = 16 ∧
    ∀ px ∈ decode6 signed m b, px.length = 3 ∧
      ∀ h ∈ px, h < 2 ^ 16 ∧ h % 2 ^ 15 ≤ 0x7BFF ∧ h ≠ 0x8000 ∧ (signed = false → h ≤ 0x7BFF)

/-- For every well-formed instruction, command or block of either format, decoding its encoded bytes followed by any
other bytes gives the instruction and those other bytes. Cites 30_encoding.md R110, 48_packer_bc7.md R369,
49_packer_bc6h.md R394, 49_packer_bc6h.md R396. -/
def Obligations.DecodeOfEncode : Prop :=
  ∀ (i : Instr) (rest : List Byte), i.wf = true → decode i.encoding (encode i ++ rest) = .ok (i, rest)

/-- For either format and every 128-bit block, the decoded row is well-formed and packing its fields gives the block
back: every bit of a block is read exactly once. Cites 48_packer_bc7.md R369, 49_packer_bc6h.md R392. -/
def Obligations.EncodeOfDecode : Prop :=
  ∀ (fmt : Format) (blk : Block), (decodeBlock fmt blk).wf = true ∧ encodeBlock (decodeBlock fmt blk) = blk

/-- Whenever the hardware reset input is asserted, whatever the machine and the host were about to do (idle, running,
at a completion step, or with a stuck host), the next state has the reset value in every register, no written mark, an
idle sequencer and no command, latched copy or candidate registers. That the parameters, the inputs still to come, the
reads, the decoder's answer and the draws stay is the model's choice of log 19, and the input as a list of levels that
of log 22. Cites 70_reset_and_hazards.md R450, 70_reset_and_hazards.md R451. -/
def Obligations.HardResetState : Prop :=
  ∀ (s : State) (rs : List Bool), s.resetIn = true :: rs →
    ∃ t, step s = .next t ∧
      t.cmd = 0 ∧ t.status = 0 ∧ t.res = 0 ∧ t.rinfo = 0 ∧ t.rerrLo = 0 ∧ t.rerrHi = 0 ∧ t.out = #v[0, 0, 0, 0] ∧
      t.rw.cfg = 0 ∧ t.rw.tiledim = 0x44 ∧ t.rw.threshLo = 0 ∧ t.rw.threshHi = 0 ∧ t.rw.force = 0 ∧
      t.rw.opa = 0 ∧ t.rw.opb = 0 ∧ t.rw.opc = 0 ∧ t.rw.bin = #v[0, 0, 0, 0] ∧
      (∀ i : Fin 16, t.rw.imp[i] = 1 ∧ t.rw.wrLo[i] = false ∧ t.rw.wrHi[i] = false) ∧
      t.seq = .idle ∧ t.params = s.params ∧ t.host = s.host ∧ t.resetIn = rs ∧ t.reads = s.reads ∧
      t.refOut = s.refOut ∧ t.draws = s.draws

/-- The state right after hardware reset satisfies the machine invariant. Cites 70_reset_and_hazards.md R450,
10_state.md R52. -/
def Obligations.ResetHasInvariant : Prop :=
  State.reset.Inv

/-- From every state that satisfies the invariant (reserved bits read 0, BUSY is the sequencer's state, the latched
copy equals the registers while a command runs, known error codes, nothing in RINFO, RERR and OUT before the first
block), every next state satisfies it and has the same, legal parameters (log 15). That the candidate registers are
there exactly for an ENCODE from its acceptance on is the model's choice of log 14. Cites 10_state.md R31, 10_state.md
R45, 10_state.md R46, 10_state.md R50, 60_exceptions.md R420. -/
def Obligations.StepKeepsInvariant : Prop :=
  ∀ s t : State, s.Inv → step s = .next t → t.Inv ∧ t.params = s.params

/-- When a command is running, no other step comes before its completion and the reset input is not asserted, the step
is exec of the instruction its PENDING word decodes to, at the same state with that level of the reset input past,
also when the word is decoded from its four bytes. That the delay is a count the step reads is the model's choice of
log 4, the input list of levels that of log 22. Cites 10_state.md R45, 70_reset_and_hazards.md R470. -/
def Obligations.StepRunsDecodedCommand : Prop :=
  ∀ (s : State) (r : Running) (i : Instr), s.seq = .busy r → r.left = 0 → s.resetAsserted = false →
    (decodeCmd r.pending = i → step s = exec i { s with resetIn := s.resetIn.tail }) ∧
    (decode .cmd (toBytes 4 r.pending.toNat) = .ok (i, []) → step s = exec i { s with resetIn := s.resetIn.tail })

/-- When the reset input is not asserted and the next thing the host does is a request to the reference decoder, the
step is exec of the row the block decodes to, after the request left the input list and, while a command runs, one
step of its time passed. The request is the model's own (log 5, log 7, log 22). Cites 41_tile.md R187, 10_state.md
R45. -/
def Obligations.StepRunsDecodedBlock : Prop :=
  ∀ (s : State) (fmt : Format) (blk : Block) (es : List HostEvent), s.host = .refDecode fmt blk :: es →
    s.resetAsserted = false →
    (s.seq = .idle → step s = exec (decodeBlock fmt blk) { s with host := es, resetIn := s.resetIn.tail }) ∧
    ∀ r, s.seq = .busy r → r.left ≠ 0 →
      step s = exec (decodeBlock fmt blk) { s with
        host := es, resetIn := s.resetIn.tail, seq := .busy { r with left := r.left - 1 } }

/-- A CMD write on an idle machine stores the word, makes STATUS exactly BUSY (DONE, ERR, ERRCODE, WIGN and FALLBACK
clear), and starts a command with that word and a latched copy of all writable registers; no other register changes.
Exactly for the word of ENCODE the command has candidate registers, and BEST and BEST_ERR in them are none; that they
exist from the acceptance on is the model's choice of log 14. How long the command runs is free (log 4). Cites
10_state.md R31, 10_state.md R32, 10_state.md R46, 10_state.md R47, 20_memory.md R80. -/
def Obligations.AcceptedCommandIsLatched : Prop :=
  ∀ (s : State) (v : Word) (es : List HostEvent), s.seq = .idle → s.resetAsserted = false →
    s.host = .write (s.params.coreBase + 0x000) 4 v :: es →
    ∃ t r, step s = .next t ∧ t = { s with
        cmd := v, status := 0x00000001, seq := .busy r, host := es, resetIn := s.resetIn.tail, draws := t.draws } ∧
      r.pending = v ∧ r.latched = s.rw ∧ (r.cand.isSome = true ↔ v = 1) ∧
      ∀ c, r.cand = some c → c.best = none ∧ c.bestErr = none

/-- While a command runs, an aligned 32-bit bus write at any offset of the window (CMD, PIX, IMP and every other
register) leaves the command with its latched copy and every register as they were, and sets STATUS.WIGN; the other
STATUS fields stay. That a write to a read-only or unmapped offset sets WIGN too is the reading of log 10; the count
of the delay is the model's (log 4). Cites 70_reset_and_hazards.md R460. -/
def Obligations.WritesWhileBusyIgnored : Prop :=
  ∀ (s : State) (r : Running) (off : Nat) (v : Word) (es : List HostEvent), s.seq = .busy r → r.left ≠ 0 →
    off % 4 = 0 → off < 0x200 → s.resetAsserted = false →
    s.host = .write (s.params.coreBase + off) 4 v :: es →
    ∃ t, step s = .next t ∧
      t = { s with
        status := t.status, host := es, resetIn := s.resetIn.tail, seq := .busy { r with left := r.left - 1 } } ∧
      statusWign t.status = true ∧ statusBusy t.status = statusBusy s.status ∧
      statusDone t.status = statusDone s.status ∧ statusErr t.status = statusErr s.status ∧
      statusErrCode t.status = statusErrCode s.status ∧ statusFallback t.status = statusFallback s.status

/-- An aligned 32-bit bus read changes no register and no running command (but the model's count of its delay); the
host gets the register's value, or 0 at an unmapped offset. The value of a PIX word that nothing has written is free
and is left open here (log 2). Cites 20_memory.md R84, 70_reset_and_hazards.md R461, 10_state.md R50. -/
def Obligations.ReadsHaveNoSideEffect : Prop :=
  ∀ (s : State) (off : Nat) (es : List HostEvent), off % 4 = 0 → off < 0x200 → s.resetAsserted = false →
    s.host = .read (s.params.coreBase + off) 4 :: es →
    (∀ r, s.seq = .busy r → r.left ≠ 0) →
    ∃ t v, step s = .next t ∧
      t = { s with
        host := es, resetIn := s.resetIn.tail, reads := (off, v) :: s.reads, seq := t.seq, draws := t.draws } ∧
      (s.seq = .idle → t.seq = .idle) ∧
      (∀ r, s.seq = .busy r → t.seq = .busy { r with left := r.left - 1 }) ∧
      (∀ g, regAt off = some g → s.unwritten g = false → v = s.regValue g) ∧
      (regAt off = none → v = 0)

/-- A write to a read-write register (not CMD) of an idle machine takes effect at once: a later read of it gives the
value written less its reserved bits, a read of any other register but an unwritten PIX word gives what it gave
before, and only the writable registers change. What a read of an unwritten PIX word gives is free (log 2). Cites
20_memory.md R80, 20_memory.md R85, 70_reset_and_hazards.md R462, 10_state.md R50. -/
def Obligations.WrittenRegisterReadsBack : Prop :=
  ∀ (s : State) (g : Reg) (v m : Word) (es : List HostEvent), s.seq = .idle → g.storedBits = some m →
    s.resetAsserted = false → s.host = .write (s.params.coreBase + g.offset) 4 v :: es →
    ∃ t, step s = .next t ∧ t = { s with rw := t.rw, host := es, resetIn := s.resetIn.tail } ∧
      t.busValue g.offset = v &&& m ∧
      ∀ g', g' ≠ g → s.unwritten g' = false → t.busValue g'.offset = s.busValue g'.offset

/-- Every register stands at its offset of the register map and at no other; the offsets 0x01C, 0x034, 0x060 to 0x0FC
and 0x1C0 to 0x1FC have no register. A write on an idle machine to an unmapped offset or to a read-only register
changes nothing. Cites 20_memory.md R80, 20_memory.md R81, 10_state.md R50, 20_memory.md R84. -/
def Obligations.UnmappedAndReadOnlyWritesIgnored : Prop :=
  (regAt 0x000 = some .cmd ∧ regAt 0x004 = some .status ∧ regAt 0x008 = some .cfg ∧ regAt 0x00C = some .tiledim ∧
    regAt 0x010 = some .threshLo ∧ regAt 0x014 = some .threshHi ∧ regAt 0x018 = some .force ∧
    regAt 0x020 = some .opa ∧ regAt 0x024 = some .opb ∧ regAt 0x028 = some .opc ∧ regAt 0x02C = some .res ∧
    regAt 0x030 = some .rinfo ∧ regAt 0x038 = some .rerrLo ∧ regAt 0x03C = some .rerrHi) ∧
  (∀ k : Fin 4, regAt (0x040 + 4 * k) = some (.out k) ∧ regAt (0x050 + 4 * k) = some (.bin k)) ∧
  (∀ i : Fin 16, regAt (0x100 + 8 * i) = some (.pixLo i) ∧ regAt (0x104 + 8 * i) = some (.pixHi i) ∧
    regAt (0x180 + 4 * i) = some (.imp i)) ∧
  (∀ off g, regAt off = some g → off = g.offset ∧ off % 4 = 0 ∧ off < 0x200) ∧
  (regAt 0x01C = none ∧ regAt 0x034 = none ∧
    ∀ off, (0x060 ≤ off ∧ off ≤ 0x0FF) ∨ 0x1C0 ≤ off → regAt off = none) ∧
  ∀ (s : State) (off : Nat) (v : Word) (es : List HostEvent), s.seq = .idle → off % 4 = 0 → off < 0x200 →
    s.resetAsserted = false → s.host = .write (s.params.coreBase + off) 4 v :: es →
    (regAt off = none ∨ ∃ g, regAt off = some g ∧ g ≠ .cmd ∧ g.storedBits = none) →
    step s = .next { s with host := es, resetIn := s.resetIn.tail }

/-- When the host's next bus access is inside the window but not 32 bits wide or not aligned, or outside the window,
and no reset is to come, an idle machine stops with the fault of a stuck access, or of an access outside the window; a
running command goes on without the access; and while a hardware reset is still to come time passes. The faults are
the model's form of the stuck host (log 12, log 22). Cites 20_memory.md R80, 20_memory.md R83, 60_exceptions.md R428,
70_reset_and_hazards.md R451. -/
def Obligations.UndefinedAccessesStop : Prop :=
  ∀ (s : State) (addr n : Nat) (v : Word) (es : List HostEvent) (f : Fault),
    (s.params.coreBase ≤ addr ∧ addr < s.params.coreBase + 0x200 ∧ (n ≠ 4 ∨ (addr - s.params.coreBase) % 4 ≠ 0) ∧
        f = .stuckAccess) ∨
      ((addr < s.params.coreBase ∨ s.params.coreBase + 0x200 ≤ addr) ∧ f = .outsideWindow) →
    s.host = .write addr n v :: es ∨ s.host = .read addr n :: es →
    s.resetAsserted = false →
    (s.seq = .idle → true ∉ s.resetIn → step s = .fault f) ∧
    (s.seq = .idle → true ∈ s.resetIn → step s = .next { s with resetIn := s.resetIn.tail }) ∧
    ∀ r, s.seq = .busy r → r.left ≠ 0 →
      step s = .next { s with resetIn := s.resetIn.tail, seq := .busy { r with left := r.left - 1 } }

/-- No instruction but ENCODE and SRESET changes OUT0..3, RINFO or RERR, and ENCODE does not when it raises an error;
RES changes only in GETMODE, SRESET and unit commands, and in a command other than GETMODE only if it completes
without error; CMD never changes. Cites 10_state.md R38, 10_state.md R41, 47_mode_selector.md R333, 60_exceptions.md
R424. -/
def Obligations.OnlyEncodeWritesTheBlock : Prop :=
  ∀ (i : Instr) (s t : State), exec i s = .next t →
    t.cmd = s.cmd ∧
    (t.out ≠ s.out ∨ t.rinfo ≠ s.rinfo ∨ t.rerrLo ≠ s.rerrLo ∨ t.rerrHi ≠ s.rerrHi →
      (i = .encode ∧ statusErr t.status = false) ∨ i = .sreset) ∧
    (t.res ≠ s.res → i.encoding = .cmd ∧ i ≠ .nop ∧ i ≠ .encode ∧ (i = .getmode ∨ statusErr t.status = false))

/-- Every instruction leaves the PIX words and their written marks as they were, every instruction but SRESET leaves
all writable registers as they were, and a step that is not a hardware reset never clears a written mark. Cites
70_reset_and_hazards.md R452, 70_reset_and_hazards.md R463, 70_reset_and_hazards.md R464. -/
def Obligations.TileSurvivesEveryCommand : Prop :=
  (∀ (i : Instr) (s t : State), exec i s = .next t →
    (i ≠ .sreset → t.rw = s.rw) ∧
    t.rw.pixLo = s.rw.pixLo ∧ t.rw.pixHi = s.rw.pixHi ∧ t.rw.wrLo = s.rw.wrLo ∧ t.rw.wrHi = s.rw.wrHi) ∧
  ∀ (s t : State), step s = .next t → s.resetAsserted = false →
    ∀ i : Fin 16, (s.rw.wrLo[i] = true → t.rw.wrLo[i] = true) ∧ (s.rw.wrHi[i] = true → t.rw.wrHi[i] = true)

/-- For two states of one machine (the same parameters, log 15) with the same latched inputs, a command faults in both
or completes in both with the same ERR, ERRCODE and FALLBACK, and RES and the group OUT, RINFO, RERR each either keep
their values in both or take the same new value in both. Cites 20_memory.md R87, 10_state.md R46. -/
def Obligations.LatchedInputsDecideResults : Prop :=
  ∀ (i : Instr) (s s' : State), i.encoding = .cmd → s.params = s'.params → s.inputs = s'.inputs →
    (∀ f, exec i s = .fault f → exec i s' = .fault f) ∧
    ∀ t, exec i s = .next t → ∃ t', exec i s' = .next t' ∧
      statusErr t.status = statusErr t'.status ∧ statusErrCode t.status = statusErrCode t'.status ∧
      statusFallback t.status = statusFallback t'.status ∧
      ((t.res = s.res ∧ t'.res = s'.res) ∨ t.res = t'.res) ∧
      ((t.out = s.out ∧ t.rinfo = s.rinfo ∧ t.rerrLo = s.rerrLo ∧ t.rerrHi = s.rerrHi ∧
        t'.out = s'.out ∧ t'.rinfo = s'.rinfo ∧ t'.rerrLo = s'.rerrLo ∧ t'.rerrHi = s'.rerrHi) ∨
       (t.out = t'.out ∧ t.rinfo = t'.rinfo ∧ t.rerrLo = t'.rerrLo ∧ t.rerrHi = t'.rerrHi))

/-- If no hardware reset is asked for, then after exactly as many steps as the command still waits the machine is at
its completion step, with CMD, the writable registers, RES, RINFO, RERR and OUT as they were and the same latched
copy; the next step executes the command. The count is the model's form of the free latency (log 4). Cites
70_reset_and_hazards.md R470, 70_reset_and_hazards.md R461. -/
def Obligations.CommandCompletesInBoundedSteps : Prop :=
  ∀ (s : State) (r : Running), s.seq = .busy r → true ∉ s.resetIn →
    ∃ t, Host.Core.run Sys2Proof.core r.left s = .next t ∧ t.seq = .busy { r with left := 0 } ∧
      t.cmd = s.cmd ∧ t.rw = s.rw ∧ t.res = s.res ∧ t.rinfo = s.rinfo ∧ t.rerrLo = s.rerrLo ∧ t.rerrHi = s.rerrHi ∧
      t.out = s.out ∧ t.params = s.params ∧ step t = exec (decodeCmd r.pending) { t with resetIn := t.resetIn.tail }
end

