-- ==== Sys2Proof/Laws/ArgFirst.lean ====
section
/-! SUPPORT. The index of a list's best element: what `argFirst` answers. -/

namespace Sys2Proof.Machine

/-- The walk either keeps its best element, which nothing later beats, or moves to the first of the best later ones. -/
theorem argFirstFrom_spec {α : Type} [LinearOrder α] (better : α → α → Bool)
    (hb : ∀ a b, better a b = true ↔ a < b) (bi : Nat) (bv : α) (i : Nat) (xs : List α) :
    (argFirstFrom better bi bv i xs = bi ∧ ∀ x ∈ xs, bv ≤ x) ∨
    (∃ k, ∃ hk : k < xs.length, argFirstFrom better bi bv i xs = i + k ∧ xs[k] < bv ∧
      ∀ j (hj : j < xs.length), xs[k] ≤ xs[j] ∧ (xs[j] = xs[k] → k ≤ j)) := by
  induction xs generalizing bi bv i with
  | nil => exact .inl ⟨rfl, by simp⟩
  | cons x xs ih =>
    by_cases hx : x < bv
    · have step : argFirstFrom better bi bv i (x :: xs) = argFirstFrom better i x (i + 1) xs := by
        simp [argFirstFrom, (hb x bv).2 hx]
      right
      rcases ih i x (i + 1) with ⟨h, hle⟩ | ⟨k, hk, h, hlt, hmin⟩
      · refine ⟨0, by simp, by rw [step, h]; rfl, by simpa using hx, fun j hj => ?_⟩
        cases j with
        | zero => simp
        | succ j => exact ⟨hle _ (by simp), fun _ => by omega⟩
      · refine ⟨k + 1, by simpa using hk, by rw [step, h]; omega, by simpa using hlt.trans hx, fun j hj => ?_⟩
        cases j with
        | zero => exact ⟨by simpa using hlt.le, fun e => absurd e (by simpa using hlt.ne')⟩
        | succ j =>
          have := hmin j (by simpa using hj)
          exact ⟨by simpa using this.1, fun e => by have := this.2 (by simpa using e); omega⟩
    · have hfalse : better x bv = false := by
        cases h : better x bv with
        | false => rfl
        | true => exact absurd ((hb x bv).1 h) hx
      have step : argFirstFrom better bi bv i (x :: xs) = argFirstFrom better bi bv (i + 1) xs := by
        simp [argFirstFrom, hfalse]
      rcases ih bi bv (i + 1) with ⟨h, hle⟩ | ⟨k, hk, h, hlt, hmin⟩
      · exact .inl ⟨by rw [step, h], by simpa using ⟨not_lt.1 hx, hle⟩⟩
      · refine .inr ⟨k + 1, by simpa using hk, by rw [step, h]; omega, by simpa using hlt, fun j hj => ?_⟩
        cases j with
        | zero =>
          have : xs[k] < x := lt_of_lt_of_le hlt (not_lt.1 hx)
          exact ⟨by simpa using this.le, fun e => absurd e (by simpa using this.ne')⟩
        | succ j =>
          have := hmin j (by simpa using hj)
          exact ⟨by simpa using this.1, fun e => by have := this.2 (by simpa using e); omega⟩

/-- `argFirst` answers the lowest index of a least element. -/
theorem argFirst_spec {α : Type} [LinearOrder α] (better : α → α → Bool)
    (hb : ∀ a b, better a b = true ↔ a < b) (l : List α) (hl : l ≠ []) :
    ∃ h : argFirst better l < l.length, ∀ i (hi : i < l.length),
      l[argFirst better l] ≤ l[i] ∧ (l[i] = l[argFirst better l] → argFirst better l ≤ i) := by
  cases l with
  | nil => exact absurd rfl hl
  | cons x xs =>
    rcases argFirstFrom_spec better hb 0 x 1 xs with ⟨h, hle⟩ | ⟨k, hk, h, hlt, hmin⟩
    · have h0 : argFirst better (x :: xs) = 0 := h
      refine ⟨by simp [h0], fun i hi => ?_⟩
      simp only [h0]
      refine ⟨?_, fun _ => Nat.zero_le _⟩
      cases i with
      | zero => simp
      | succ i => exact hle _ (by simp)
    · have h1 : argFirst better (x :: xs) = k + 1 := by
        show argFirstFrom better 0 x 1 xs = k + 1
        rw [h]; omega
      refine ⟨by simp [h1, hk], fun i hi => ?_⟩
      simp only [h1]
      cases i with
      | zero => exact ⟨by simpa using hlt.le, fun e => absurd e (by simpa using hlt.ne')⟩
      | succ i =>
        have := hmin i (by simpa using hi)
        exact ⟨by simpa using this.1, fun e => by have := this.2 (by simpa using e); omega⟩

theorem argMinNat_spec (l : List Nat) (hl : l ≠ []) :
    ∃ h : argMinNat l < l.length, ∀ i (hi : i < l.length),
      l[argMinNat l] ≤ l[i] ∧ (l[i] = l[argMinNat l] → argMinNat l ≤ i) :=
  argFirst_spec _ (by simp) l hl

theorem argMinRat_spec (l : List Rat) (hl : l ≠ []) :
    ∃ h : argMinRat l < l.length, ∀ i (hi : i < l.length),
      l[argMinRat l] ≤ l[i] ∧ (l[i] = l[argMinRat l] → argMinRat l ≤ i) :=
  argFirst_spec _ (by simp) l hl

end Sys2Proof.Machine
end

