-- ==== Sys2Proof/Laws/Bits.lean ====
section
/-! SUPPORT. Laws of the bit-field helpers: fields of words, and that fields packed back to back are read back. -/

namespace Sys2Proof.Machine

theorem fieldOf_eq_extract (w : Word) (lo n : Nat) : fieldOf w lo n = (w.extractLsb' lo n).toNat := by
  simp [fieldOf, bitsOf, Nat.shiftRight_eq_div_pow]

theorem bitsOf_lt (v lo n : Nat) : bitsOf v lo n < 2 ^ n := Nat.mod_lt _ (Nat.two_pow_pos n)

theorem fieldOf_lt (w : Word) (lo n : Nat) : fieldOf w lo n < 2 ^ n := bitsOf_lt _ _ _

/-- Does every value fit its field? -/
def FieldsFit (fs : List (Nat × Nat)) : Prop := ∀ f ∈ fs, f.2 < 2 ^ f.1

/-- The summed width of fields. -/
def fieldsWidth (fs : List (Nat × Nat)) : Nat := (fs.map Prod.fst).sum

theorem packFields_lt (fs : List (Nat × Nat)) : packFields fs < 2 ^ fieldsWidth fs := by
  induction fs with
  | nil => simp [packFields, fieldsWidth]
  | cons f fs ih =>
    obtain ⟨w, v⟩ := f
    have hmod : v % 2 ^ w < 2 ^ w := Nat.mod_lt _ (Nat.two_pow_pos w)
    have hw : fieldsWidth ((w, v) :: fs) = w + fieldsWidth fs := by simp [fieldsWidth]
    have hmul : 2 ^ w * packFields fs + 2 ^ w ≤ 2 ^ w * 2 ^ fieldsWidth fs := by
      have := Nat.mul_le_mul_left (2 ^ w) (Nat.succ_le_of_lt ih)
      simpa [Nat.mul_succ] using this
    rw [hw, pow_add, packFields]
    omega

/-- Reading the widths of packed fields gives their values back, and the bits above them. -/
theorem readFields_packFields (fs : List (Nat × Nat)) (rest : Nat) (h : FieldsFit fs) :
    readFields (fs.map Prod.fst) (packFields fs + 2 ^ fieldsWidth fs * rest) = (fs.map Prod.snd, rest) := by
  induction fs with
  | nil => simp [readFields, packFields, fieldsWidth]
  | cons f fs ih =>
    obtain ⟨w, v⟩ := f
    have hv : v % 2 ^ w = v := Nat.mod_eq_of_lt (h (w, v) (by simp))
    have hw : fieldsWidth ((w, v) :: fs) = w + fieldsWidth fs := by simp [fieldsWidth]
    have split : packFields ((w, v) :: fs) + 2 ^ fieldsWidth ((w, v) :: fs) * rest
        = v + 2 ^ w * (packFields fs + 2 ^ fieldsWidth fs * rest) := by
      rw [hw, pow_add, packFields, hv]; ring
    have hlt : v < 2 ^ w := h (w, v) (by simp)
    have ih := ih fun f hf => h f (by simp [hf])
    simp only [List.map_cons, readFields]
    rw [split, Nat.add_mul_div_left _ _ (Nat.two_pow_pos w), Nat.div_eq_of_lt hlt, Nat.zero_add, ih,
      Nat.add_mul_mod_self_left, Nat.mod_eq_of_lt hlt]

/-- Reading fields one after another splits at any place. -/
theorem readFields_append (ws vs : List Nat) (x : Nat) :
    readFields (ws ++ vs) x =
      ((readFields ws x).1 ++ (readFields vs (readFields ws x).2).1, (readFields vs (readFields ws x).2).2) := by
  induction ws generalizing x with
  | nil => simp [readFields]
  | cons w ws ih => simp [readFields, ih]

theorem readFields_length (ws : List Nat) (x : Nat) : (readFields ws x).1.length = ws.length := by
  induction ws generalizing x with
  | nil => rfl
  | cons w ws ih => simp [readFields, ih]

end Sys2Proof.Machine
end

