-- ==== Sys2Proof/Laws/Fit.lean ====
section
/-! SUPPORT. The shape of what the reference fit answers. -/

namespace Sys2Proof.Machine

theorem centroid_length (n : Nat) (pts : List (List Rat)) (w : List Rat) : (centroid n pts w).length = n := by
  simp [centroid]

theorem project_length (n : Nat) (pts : List (List Rat)) (c v : List Rat) :
    (project n pts c v).1.length = n ∧ (project n pts c v).2.length = n := by
  simp [project]

/-- The reference fit answers two vectors of `n` channels, whatever the number of iterations. -/
theorem fit_total (iters : Nat) : TotalFitter (fit iters) := by
  intro n pts wts
  unfold fit
  split
  · simp
  · dsimp only
    split
    · simp [centroid_length]
    · exact project_length _ _ _ _

end Sys2Proof.Machine
end

