-- ==== Sys2Proof/Laws/Flags.lean ====
section
/-! SUPPORT. The fields of the STATUS words the operations build. -/

namespace Sys2Proof.Machine

theorem statusWord_fields : ∀ (b d e w f : Bool) (c : Fin 16),
    statusBusy (statusWord b d e c w f) = b ∧ statusDone (statusWord b d e c w f) = d ∧
    statusErr (statusWord b d e c w f) = e ∧ statusErrCode (statusWord b d e c w f) = c ∧
    statusWign (statusWord b d e c w f) = w ∧ statusFallback (statusWord b d e c w f) = f := by
  decide +kernel

theorem statusWord_reserved : ∀ (b d e w f : Bool) (c : Fin 16),
    statusWord b d e c w f &&& statusMask = statusWord b d e c w f := by
  decide +kernel

theorem ErrCode.code_lt (e : ErrCode) : e.code < 16 := by cases e <;> decide

/-- STATUS at a completion without error. -/
theorem completedOk_statusCompleted (old : Word) (fb : Bool) : CompletedOk old (statusCompleted old fb) fb := by
  have h := statusWord_fields false true false (statusWign old) fb 0
  exact ⟨h.1, h.2.1, h.2.2.1, h.2.2.2.1, h.2.2.2.2.1, h.2.2.2.2.2⟩

/-- STATUS at a completion with an error. -/
theorem completedErr_statusError (old : Word) (e : ErrCode) : CompletedErr old (statusError old e) e := by
  have h := statusWord_fields false true true (statusWign old) false ⟨e.code, e.code_lt⟩
  exact ⟨h.1, h.2.1, h.2.2.1, h.2.2.2.1, h.2.2.2.2.1, h.2.2.2.2.2⟩

/-- Setting WIGN leaves a field that does not hold bit 8. -/
theorem fieldOf_ignoredWrite (old : Word) (lo n : Nat)
    (h : (wordOf (2 ^ 8)).extractLsb' lo n = 0#n) :
    fieldOf (statusIgnoredWrite old) lo n = fieldOf old lo n := by
  rw [fieldOf_eq_extract, fieldOf_eq_extract, statusIgnoredWrite, BitVec.extractLsb'_or, h, BitVec.or_zero]

@[simp] theorem statusBusy_ignoredWrite (old : Word) : statusBusy (statusIgnoredWrite old) = statusBusy old := by
  simp [statusBusy, fieldOf_ignoredWrite old 0 1 (by decide)]
@[simp] theorem statusDone_ignoredWrite (old : Word) : statusDone (statusIgnoredWrite old) = statusDone old := by
  simp [statusDone, fieldOf_ignoredWrite old 1 1 (by decide)]
@[simp] theorem statusErr_ignoredWrite (old : Word) : statusErr (statusIgnoredWrite old) = statusErr old := by
  simp [statusErr, fieldOf_ignoredWrite old 2 1 (by decide)]
@[simp] theorem statusErrCode_ignoredWrite (old : Word) :
    statusErrCode (statusIgnoredWrite old) = statusErrCode old := by
  simp [statusErrCode, fieldOf_ignoredWrite old 4 4 (by decide)]
@[simp] theorem statusFallback_ignoredWrite (old : Word) :
    statusFallback (statusIgnoredWrite old) = statusFallback old := by
  simp [statusFallback, fieldOf_ignoredWrite old 9 1 (by decide)]
@[simp] theorem statusWign_ignoredWrite (old : Word) : statusWign (statusIgnoredWrite old) = true := by
  have h : (wordOf (2 ^ 8)).extractLsb' 8 1 = 1#1 := by decide
  have one : ∀ b : BitVec 1, (b ||| 1#1).toNat = 1 := by decide
  rw [statusWign, fieldOf_eq_extract, statusIgnoredWrite, BitVec.extractLsb'_or, h, one]
  rfl

end Sys2Proof.Machine
end

