-- ==== Sys2Proof/Laws/State.lean ====
section
/-! SUPPORT. One lemma per field of the state for each shared update, so that no proof unfolds a record update. -/

namespace Sys2Proof.Machine

variable (s : State)

/-! ### `State.acceptWith` -/

@[simp] theorem State.acceptWith_cmd (w : Word) (n : Nat) :
    (s.acceptWith w n).cmd = w := rfl
@[simp] theorem State.acceptWith_status (w : Word) (n : Nat) :
    (s.acceptWith w n).status = statusAccepted := rfl
@[simp] theorem State.acceptWith_res (w : Word) (n : Nat) :
    (s.acceptWith w n).res = s.res := rfl
@[simp] theorem State.acceptWith_rinfo (w : Word) (n : Nat) :
    (s.acceptWith w n).rinfo = s.rinfo := rfl
@[simp] theorem State.acceptWith_rerrLo (w : Word) (n : Nat) :
    (s.acceptWith w n).rerrLo = s.rerrLo := rfl
@[simp] theorem State.acceptWith_rerrHi (w : Word) (n : Nat) :
    (s.acceptWith w n).rerrHi = s.rerrHi := rfl
@[simp] theorem State.acceptWith_out (w : Word) (n : Nat) :
    (s.acceptWith w n).out = s.out := rfl
@[simp] theorem State.acceptWith_rw (w : Word) (n : Nat) :
    (s.acceptWith w n).rw = s.rw := rfl
@[simp] theorem State.acceptWith_seq (w : Word) (n : Nat) :
    (s.acceptWith w n).seq = .busy ⟨w, s.rw, if w = 0x01 then some (CandRegs.start s.params (cfgFormat s.rw.cfg)) else none, n⟩ := rfl
@[simp] theorem State.acceptWith_host (w : Word) (n : Nat) :
    (s.acceptWith w n).host = s.host := rfl
@[simp] theorem State.acceptWith_params (w : Word) (n : Nat) :
    (s.acceptWith w n).params = s.params := rfl
@[simp] theorem State.acceptWith_resetIn (w : Word) (n : Nat) :
    (s.acceptWith w n).resetIn = s.resetIn := rfl
@[simp] theorem State.acceptWith_reads (w : Word) (n : Nat) :
    (s.acceptWith w n).reads = s.reads := rfl
@[simp] theorem State.acceptWith_refOut (w : Word) (n : Nat) :
    (s.acceptWith w n).refOut = s.refOut := rfl
@[simp] theorem State.acceptWith_draws (w : Word) (n : Nat) :
    (s.acceptWith w n).draws = s.draws := rfl

/-! ### `State.accept` -/

@[simp] theorem State.accept_cmd (w : Word) :
    (s.accept w).cmd = w := rfl
@[simp] theorem State.accept_status (w : Word) :
    (s.accept w).status = statusAccepted := rfl
@[simp] theorem State.accept_res (w : Word) :
    (s.accept w).res = s.res := rfl
@[simp] theorem State.accept_rinfo (w : Word) :
    (s.accept w).rinfo = s.rinfo := rfl
@[simp] theorem State.accept_rerrLo (w : Word) :
    (s.accept w).rerrLo = s.rerrLo := rfl
@[simp] theorem State.accept_rerrHi (w : Word) :
    (s.accept w).rerrHi = s.rerrHi := rfl
@[simp] theorem State.accept_out (w : Word) :
    (s.accept w).out = s.out := rfl
@[simp] theorem State.accept_rw (w : Word) :
    (s.accept w).rw = s.rw := rfl
@[simp] theorem State.accept_seq (w : Word) :
    (s.accept w).seq = .busy ⟨w, s.rw, if w = 0x01 then some (CandRegs.start s.params (cfgFormat s.rw.cfg)) else none,
      Config.latency s.params.coreBase s.draws⟩ := rfl
@[simp] theorem State.accept_host (w : Word) :
    (s.accept w).host = s.host := rfl
@[simp] theorem State.accept_params (w : Word) :
    (s.accept w).params = s.params := rfl
@[simp] theorem State.accept_resetIn (w : Word) :
    (s.accept w).resetIn = s.resetIn := rfl
@[simp] theorem State.accept_reads (w : Word) :
    (s.accept w).reads = s.reads := rfl
@[simp] theorem State.accept_refOut (w : Word) :
    (s.accept w).refOut = s.refOut := rfl
@[simp] theorem State.accept_draws (w : Word) :
    (s.accept w).draws = s.draws + 1 := rfl

/-! ### `State.complete` -/

@[simp] theorem State.complete_cmd (fb : Bool) :
    (s.complete fb).cmd = s.cmd := rfl
@[simp] theorem State.complete_status (fb : Bool) :
    (s.complete fb).status = statusCompleted s.status fb := rfl
@[simp] theorem State.complete_res (fb : Bool) :
    (s.complete fb).res = s.res := rfl
@[simp] theorem State.complete_rinfo (fb : Bool) :
    (s.complete fb).rinfo = s.rinfo := rfl
@[simp] theorem State.complete_rerrLo (fb : Bool) :
    (s.complete fb).rerrLo = s.rerrLo := rfl
@[simp] theorem State.complete_rerrHi (fb : Bool) :
    (s.complete fb).rerrHi = s.rerrHi := rfl
@[simp] theorem State.complete_out (fb : Bool) :
    (s.complete fb).out = s.out := rfl
@[simp] theorem State.complete_rw (fb : Bool) :
    (s.complete fb).rw = s.rw := rfl
@[simp] theorem State.complete_seq (fb : Bool) :
    (s.complete fb).seq = .idle := rfl
@[simp] theorem State.complete_host (fb : Bool) :
    (s.complete fb).host = s.host := rfl
@[simp] theorem State.complete_params (fb : Bool) :
    (s.complete fb).params = s.params := rfl
@[simp] theorem State.complete_resetIn (fb : Bool) :
    (s.complete fb).resetIn = s.resetIn := rfl
@[simp] theorem State.complete_reads (fb : Bool) :
    (s.complete fb).reads = s.reads := rfl
@[simp] theorem State.complete_refOut (fb : Bool) :
    (s.complete fb).refOut = s.refOut := rfl
@[simp] theorem State.complete_draws (fb : Bool) :
    (s.complete fb).draws = s.draws := rfl

/-! ### `State.raise` -/

@[simp] theorem State.raise_cmd (e : ErrCode) :
    (s.raise e).cmd = s.cmd := rfl
@[simp] theorem State.raise_status (e : ErrCode) :
    (s.raise e).status = statusError s.status e := rfl
@[simp] theorem State.raise_res (e : ErrCode) :
    (s.raise e).res = s.res := rfl
@[simp] theorem State.raise_rinfo (e : ErrCode) :
    (s.raise e).rinfo = s.rinfo := rfl
@[simp] theorem State.raise_rerrLo (e : ErrCode) :
    (s.raise e).rerrLo = s.rerrLo := rfl
@[simp] theorem State.raise_rerrHi (e : ErrCode) :
    (s.raise e).rerrHi = s.rerrHi := rfl
@[simp] theorem State.raise_out (e : ErrCode) :
    (s.raise e).out = s.out := rfl
@[simp] theorem State.raise_rw (e : ErrCode) :
    (s.raise e).rw = s.rw := rfl
@[simp] theorem State.raise_seq (e : ErrCode) :
    (s.raise e).seq = .idle := rfl
@[simp] theorem State.raise_host (e : ErrCode) :
    (s.raise e).host = s.host := rfl
@[simp] theorem State.raise_params (e : ErrCode) :
    (s.raise e).params = s.params := rfl
@[simp] theorem State.raise_resetIn (e : ErrCode) :
    (s.raise e).resetIn = s.resetIn := rfl
@[simp] theorem State.raise_reads (e : ErrCode) :
    (s.raise e).reads = s.reads := rfl
@[simp] theorem State.raise_refOut (e : ErrCode) :
    (s.raise e).refOut = s.refOut := rfl
@[simp] theorem State.raise_draws (e : ErrCode) :
    (s.raise e).draws = s.draws := rfl

/-! ### `State.completeRes` -/

@[simp] theorem State.completeRes_cmd (v : Word) :
    (s.completeRes v).cmd = s.cmd := rfl
@[simp] theorem State.completeRes_status (v : Word) :
    (s.completeRes v).status = statusCompleted s.status false := rfl
@[simp] theorem State.completeRes_res (v : Word) :
    (s.completeRes v).res = v := rfl
@[simp] theorem State.completeRes_rinfo (v : Word) :
    (s.completeRes v).rinfo = s.rinfo := rfl
@[simp] theorem State.completeRes_rerrLo (v : Word) :
    (s.completeRes v).rerrLo = s.rerrLo := rfl
@[simp] theorem State.completeRes_rerrHi (v : Word) :
    (s.completeRes v).rerrHi = s.rerrHi := rfl
@[simp] theorem State.completeRes_out (v : Word) :
    (s.completeRes v).out = s.out := rfl
@[simp] theorem State.completeRes_rw (v : Word) :
    (s.completeRes v).rw = s.rw := rfl
@[simp] theorem State.completeRes_seq (v : Word) :
    (s.completeRes v).seq = .idle := rfl
@[simp] theorem State.completeRes_host (v : Word) :
    (s.completeRes v).host = s.host := rfl
@[simp] theorem State.completeRes_params (v : Word) :
    (s.completeRes v).params = s.params := rfl
@[simp] theorem State.completeRes_resetIn (v : Word) :
    (s.completeRes v).resetIn = s.resetIn := rfl
@[simp] theorem State.completeRes_reads (v : Word) :
    (s.completeRes v).reads = s.reads := rfl
@[simp] theorem State.completeRes_refOut (v : Word) :
    (s.completeRes v).refOut = s.refOut := rfl
@[simp] theorem State.completeRes_draws (v : Word) :
    (s.completeRes v).draws = s.draws := rfl

/-! ### `State.commit` -/

@[simp] theorem State.commit_cmd (blk : Block) (info : Word) (err : Nat) (fb : Bool) :
    (s.commit blk info err fb).cmd = s.cmd := rfl
@[simp] theorem State.commit_status (blk : Block) (info : Word) (err : Nat) (fb : Bool) :
    (s.commit blk info err fb).status = statusCompleted s.status fb := rfl
@[simp] theorem State.commit_res (blk : Block) (info : Word) (err : Nat) (fb : Bool) :
    (s.commit blk info err fb).res = s.res := rfl
@[simp] theorem State.commit_rinfo (blk : Block) (info : Word) (err : Nat) (fb : Bool) :
    (s.commit blk info err fb).rinfo = info := rfl
@[simp] theorem State.commit_rerrLo (blk : Block) (info : Word) (err : Nat) (fb : Bool) :
    (s.commit blk info err fb).rerrLo = wordOf (bitsOf err 0 32) := rfl
@[simp] theorem State.commit_rerrHi (blk : Block) (info : Word) (err : Nat) (fb : Bool) :
    (s.commit blk info err fb).rerrHi = wordOf (bitsOf err 32 32) := rfl
@[simp] theorem State.commit_out (blk : Block) (info : Word) (err : Nat) (fb : Bool) :
    (s.commit blk info err fb).out = wordsOfBlock blk := rfl
@[simp] theorem State.commit_rw (blk : Block) (info : Word) (err : Nat) (fb : Bool) :
    (s.commit blk info err fb).rw = s.rw := rfl
@[simp] theorem State.commit_seq (blk : Block) (info : Word) (err : Nat) (fb : Bool) :
    (s.commit blk info err fb).seq = .idle := rfl
@[simp] theorem State.commit_host (blk : Block) (info : Word) (err : Nat) (fb : Bool) :
    (s.commit blk info err fb).host = s.host := rfl
@[simp] theorem State.commit_params (blk : Block) (info : Word) (err : Nat) (fb : Bool) :
    (s.commit blk info err fb).params = s.params := rfl
@[simp] theorem State.commit_resetIn (blk : Block) (info : Word) (err : Nat) (fb : Bool) :
    (s.commit blk info err fb).resetIn = s.resetIn := rfl
@[simp] theorem State.commit_reads (blk : Block) (info : Word) (err : Nat) (fb : Bool) :
    (s.commit blk info err fb).reads = s.reads := rfl
@[simp] theorem State.commit_refOut (blk : Block) (info : Word) (err : Nat) (fb : Bool) :
    (s.commit blk info err fb).refOut = s.refOut := rfl
@[simp] theorem State.commit_draws (blk : Block) (info : Word) (err : Nat) (fb : Bool) :
    (s.commit blk info err fb).draws = s.draws := rfl

/-! ### `State.answer` -/

@[simp] theorem State.answer_cmd (o : RefOut) :
    (s.answer o).cmd = s.cmd := rfl
@[simp] theorem State.answer_status (o : RefOut) :
    (s.answer o).status = s.status := rfl
@[simp] theorem State.answer_res (o : RefOut) :
    (s.answer o).res = s.res := rfl
@[simp] theorem State.answer_rinfo (o : RefOut) :
    (s.answer o).rinfo = s.rinfo := rfl
@[simp] theorem State.answer_rerrLo (o : RefOut) :
    (s.answer o).rerrLo = s.rerrLo := rfl
@[simp] theorem State.answer_rerrHi (o : RefOut) :
    (s.answer o).rerrHi = s.rerrHi := rfl
@[simp] theorem State.answer_out (o : RefOut) :
    (s.answer o).out = s.out := rfl
@[simp] theorem State.answer_rw (o : RefOut) :
    (s.answer o).rw = s.rw := rfl
@[simp] theorem State.answer_seq (o : RefOut) :
    (s.answer o).seq = s.seq := rfl
@[simp] theorem State.answer_host (o : RefOut) :
    (s.answer o).host = s.host := rfl
@[simp] theorem State.answer_params (o : RefOut) :
    (s.answer o).params = s.params := rfl
@[simp] theorem State.answer_resetIn (o : RefOut) :
    (s.answer o).resetIn = s.resetIn := rfl
@[simp] theorem State.answer_reads (o : RefOut) :
    (s.answer o).reads = s.reads := rfl
@[simp] theorem State.answer_refOut (o : RefOut) :
    (s.answer o).refOut = o := rfl
@[simp] theorem State.answer_draws (o : RefOut) :
    (s.answer o).draws = s.draws := rfl

/-! ### `State.writeBusy` -/

@[simp] theorem State.writeBusy_cmd :
    (s.writeBusy).cmd = s.cmd := rfl
@[simp] theorem State.writeBusy_status :
    (s.writeBusy).status = statusIgnoredWrite s.status := rfl
@[simp] theorem State.writeBusy_res :
    (s.writeBusy).res = s.res := rfl
@[simp] theorem State.writeBusy_rinfo :
    (s.writeBusy).rinfo = s.rinfo := rfl
@[simp] theorem State.writeBusy_rerrLo :
    (s.writeBusy).rerrLo = s.rerrLo := rfl
@[simp] theorem State.writeBusy_rerrHi :
    (s.writeBusy).rerrHi = s.rerrHi := rfl
@[simp] theorem State.writeBusy_out :
    (s.writeBusy).out = s.out := rfl
@[simp] theorem State.writeBusy_rw :
    (s.writeBusy).rw = s.rw := rfl
@[simp] theorem State.writeBusy_seq :
    (s.writeBusy).seq = s.seq := rfl
@[simp] theorem State.writeBusy_host :
    (s.writeBusy).host = s.host := rfl
@[simp] theorem State.writeBusy_params :
    (s.writeBusy).params = s.params := rfl
@[simp] theorem State.writeBusy_resetIn :
    (s.writeBusy).resetIn = s.resetIn := rfl
@[simp] theorem State.writeBusy_reads :
    (s.writeBusy).reads = s.reads := rfl
@[simp] theorem State.writeBusy_refOut :
    (s.writeBusy).refOut = s.refOut := rfl
@[simp] theorem State.writeBusy_draws :
    (s.writeBusy).draws = s.draws := rfl

/-! ### `State.busRead` -/

@[simp] theorem State.busRead_cmd (off : Nat) :
    (s.busRead off).cmd = s.cmd := rfl
@[simp] theorem State.busRead_status (off : Nat) :
    (s.busRead off).status = s.status := rfl
@[simp] theorem State.busRead_res (off : Nat) :
    (s.busRead off).res = s.res := rfl
@[simp] theorem State.busRead_rinfo (off : Nat) :
    (s.busRead off).rinfo = s.rinfo := rfl
@[simp] theorem State.busRead_rerrLo (off : Nat) :
    (s.busRead off).rerrLo = s.rerrLo := rfl
@[simp] theorem State.busRead_rerrHi (off : Nat) :
    (s.busRead off).rerrHi = s.rerrHi := rfl
@[simp] theorem State.busRead_out (off : Nat) :
    (s.busRead off).out = s.out := rfl
@[simp] theorem State.busRead_rw (off : Nat) :
    (s.busRead off).rw = s.rw := rfl
@[simp] theorem State.busRead_seq (off : Nat) :
    (s.busRead off).seq = s.seq := rfl
@[simp] theorem State.busRead_host (off : Nat) :
    (s.busRead off).host = s.host := rfl
@[simp] theorem State.busRead_params (off : Nat) :
    (s.busRead off).params = s.params := rfl
@[simp] theorem State.busRead_resetIn (off : Nat) :
    (s.busRead off).resetIn = s.resetIn := rfl
@[simp] theorem State.busRead_reads (off : Nat) :
    (s.busRead off).reads = (off, s.busValue off) :: s.reads := rfl
@[simp] theorem State.busRead_refOut (off : Nat) :
    (s.busRead off).refOut = s.refOut := rfl
@[simp] theorem State.busRead_draws (off : Nat) :
    (s.busRead off).draws = if s.readDraws off then s.draws + 1 else s.draws := rfl

/-! ### `State.hardReset` -/

@[simp] theorem State.hardReset_cmd :
    (s.hardReset).cmd = 0 := rfl
@[simp] theorem State.hardReset_status :
    (s.hardReset).status = 0 := rfl
@[simp] theorem State.hardReset_res :
    (s.hardReset).res = 0 := rfl
@[simp] theorem State.hardReset_rinfo :
    (s.hardReset).rinfo = 0 := rfl
@[simp] theorem State.hardReset_rerrLo :
    (s.hardReset).rerrLo = 0 := rfl
@[simp] theorem State.hardReset_rerrHi :
    (s.hardReset).rerrHi = 0 := rfl
@[simp] theorem State.hardReset_out :
    (s.hardReset).out = Vector.replicate 4 0 := rfl
@[simp] theorem State.hardReset_rw :
    (s.hardReset).rw = RwRegs.reset := rfl
@[simp] theorem State.hardReset_seq :
    (s.hardReset).seq = .idle := rfl
@[simp] theorem State.hardReset_host :
    (s.hardReset).host = s.host := rfl
@[simp] theorem State.hardReset_params :
    (s.hardReset).params = s.params := rfl
@[simp] theorem State.hardReset_resetIn :
    (s.hardReset).resetIn = s.resetIn := rfl
@[simp] theorem State.hardReset_reads :
    (s.hardReset).reads = s.reads := rfl
@[simp] theorem State.hardReset_refOut :
    (s.hardReset).refOut = s.refOut := rfl
@[simp] theorem State.hardReset_draws :
    (s.hardReset).draws = s.draws := rfl

/-! ### `State.tick` -/

@[simp] theorem State.tick_cmd : s.tick.cmd = s.cmd := by unfold State.tick; split <;> rfl
@[simp] theorem State.tick_status : s.tick.status = s.status := by unfold State.tick; split <;> rfl
@[simp] theorem State.tick_res : s.tick.res = s.res := by unfold State.tick; split <;> rfl
@[simp] theorem State.tick_rinfo : s.tick.rinfo = s.rinfo := by unfold State.tick; split <;> rfl
@[simp] theorem State.tick_rerrLo : s.tick.rerrLo = s.rerrLo := by unfold State.tick; split <;> rfl
@[simp] theorem State.tick_rerrHi : s.tick.rerrHi = s.rerrHi := by unfold State.tick; split <;> rfl
@[simp] theorem State.tick_out : s.tick.out = s.out := by unfold State.tick; split <;> rfl
@[simp] theorem State.tick_rw : s.tick.rw = s.rw := by unfold State.tick; split <;> rfl
@[simp] theorem State.tick_host : s.tick.host = s.host := by unfold State.tick; split <;> rfl
@[simp] theorem State.tick_params : s.tick.params = s.params := by unfold State.tick; split <;> rfl
@[simp] theorem State.tick_resetIn : s.tick.resetIn = s.resetIn := by unfold State.tick; split <;> rfl
@[simp] theorem State.tick_reads : s.tick.reads = s.reads := by unfold State.tick; split <;> rfl
@[simp] theorem State.tick_refOut : s.tick.refOut = s.refOut := by unfold State.tick; split <;> rfl
@[simp] theorem State.tick_draws : s.tick.draws = s.draws := by unfold State.tick; split <;> rfl

/-- Time only passes: a running command keeps all but its count of steps. -/
theorem State.tick_busy {r : Running} (h : s.seq = .busy r) : s.tick.seq = .busy { r with left := r.left - 1 } := by
  simp [State.tick, h]

theorem State.tick_idle (h : s.seq = .idle) : s.tick = s := by simp [State.tick, h]

/-! ### `State.pastReset` -/

@[simp] theorem State.pastReset_cmd : s.pastReset.cmd = s.cmd := rfl
@[simp] theorem State.pastReset_status : s.pastReset.status = s.status := rfl
@[simp] theorem State.pastReset_res : s.pastReset.res = s.res := rfl
@[simp] theorem State.pastReset_rinfo : s.pastReset.rinfo = s.rinfo := rfl
@[simp] theorem State.pastReset_rerrLo : s.pastReset.rerrLo = s.rerrLo := rfl
@[simp] theorem State.pastReset_rerrHi : s.pastReset.rerrHi = s.rerrHi := rfl
@[simp] theorem State.pastReset_out : s.pastReset.out = s.out := rfl
@[simp] theorem State.pastReset_rw : s.pastReset.rw = s.rw := rfl
@[simp] theorem State.pastReset_seq : s.pastReset.seq = s.seq := rfl
@[simp] theorem State.pastReset_params : s.pastReset.params = s.params := rfl
@[simp] theorem State.pastReset_host : s.pastReset.host = s.host := rfl
@[simp] theorem State.pastReset_resetIn : s.pastReset.resetIn = s.resetIn.tail := rfl
@[simp] theorem State.pastReset_reads : s.pastReset.reads = s.reads := rfl
@[simp] theorem State.pastReset_refOut : s.pastReset.refOut = s.refOut := rfl
@[simp] theorem State.pastReset_draws : s.pastReset.draws = s.draws := rfl

/-! ### `State.inputs` -/

theorem State.inputs_idle (h : s.seq = .idle) : s.inputs = s.rw := by simp [State.inputs, h]

theorem State.inputs_busy {r : Running} (h : s.seq = .busy r) : s.inputs = r.latched := by simp [State.inputs, h]

/-! ### `RwRegs.softReset` -/

@[simp] theorem RwRegs.softReset_cfg (r : RwRegs) : r.softReset.cfg = 0 := rfl
@[simp] theorem RwRegs.softReset_tiledim (r : RwRegs) : r.softReset.tiledim = 0x44 := rfl
@[simp] theorem RwRegs.softReset_threshLo (r : RwRegs) : r.softReset.threshLo = 0 := rfl
@[simp] theorem RwRegs.softReset_threshHi (r : RwRegs) : r.softReset.threshHi = 0 := rfl
@[simp] theorem RwRegs.softReset_force (r : RwRegs) : r.softReset.force = 0 := rfl
@[simp] theorem RwRegs.softReset_opa (r : RwRegs) : r.softReset.opa = 0 := rfl
@[simp] theorem RwRegs.softReset_opb (r : RwRegs) : r.softReset.opb = 0 := rfl
@[simp] theorem RwRegs.softReset_opc (r : RwRegs) : r.softReset.opc = 0 := rfl
@[simp] theorem RwRegs.softReset_bin (r : RwRegs) : r.softReset.bin = Vector.replicate 4 0 := rfl
@[simp] theorem RwRegs.softReset_pixLo (r : RwRegs) : r.softReset.pixLo = r.pixLo := rfl
@[simp] theorem RwRegs.softReset_pixHi (r : RwRegs) : r.softReset.pixHi = r.pixHi := rfl
@[simp] theorem RwRegs.softReset_wrLo (r : RwRegs) : r.softReset.wrLo = r.wrLo := rfl
@[simp] theorem RwRegs.softReset_wrHi (r : RwRegs) : r.softReset.wrHi = r.wrHi := rfl
@[simp] theorem RwRegs.softReset_imp (r : RwRegs) : r.softReset.imp = Vector.replicate 16 1 := rfl

end Sys2Proof.Machine
end

