-- ==== Sys2Proof/Laws/Ops.lean ====
section
/-! SUPPORT. For each shared operation one lemma that says everything it can do. -/

namespace Sys2Proof.Machine

/-- The two ends of a unit command: its first failing check, or its result. -/
theorem unitResult_next {s t : State} {x : Except ErrCode Word} (h : unitResult s x = .next t) :
    (∃ e, x = .error e ∧ t = s.raise e) ∨ (∃ v, x = .ok v ∧ t = s.completeRes v) := by
  cases x with
  | error e => left; exact ⟨e, rfl, by simpa [unitResult] using h.symm⟩
  | ok v => right; exact ⟨v, rfl, by simpa [unitResult] using h.symm⟩

/-- A unit command always answers a next state. -/
theorem unitResult_completes (s : State) (x : Except ErrCode Word) : ∃ t, unitResult s x = .next t := by
  cases x <;> exact ⟨_, rfl⟩

theorem onlyResChanged_completeRes (s : State) (v : Word) : OnlyResChanged s (s.completeRes v) :=
  ⟨rfl, completedOk_statusCompleted s.status false⟩

theorem onlyErrorRaised_raise (s : State) (e : ErrCode) : OnlyErrorRaised s (s.raise e) e :=
  ⟨rfl, completedErr_statusError s.status e⟩

/-- What a bus write does: while busy only STATUS changes; while idle it starts a command, stores in the writable
registers, or does nothing. -/
theorem busWrite_cases (s : State) (off : Nat) (v : Word) :
    (∃ r, s.seq = .busy r ∧ s.busWrite off v = s.writeBusy) ∨
    (s.seq = .idle ∧ regAt off = some .cmd ∧ s.busWrite off v = s.accept v) ∨
    (s.seq = .idle ∧ ∃ g, regAt off = some g ∧ g ≠ .cmd ∧ s.busWrite off v = { s with rw := s.rw.write v g }) ∨
    (s.seq = .idle ∧ regAt off = none ∧ s.busWrite off v = s) := by
  unfold State.busWrite
  cases hs : s.seq with
  | busy r => exact .inl ⟨r, rfl, rfl⟩
  | idle =>
    right
    unfold State.writeIdle
    cases hg : regAt off with
    | none => exact .inr (.inr ⟨rfl, rfl, rfl⟩)
    | some g =>
      by_cases hc : g = .cmd
      · subst hc; exact .inl ⟨rfl, rfl, rfl⟩
      · refine .inr (.inl ⟨rfl, g, rfl, hc, ?_⟩)
        cases g <;> first | exact absurd rfl hc | simp [hs]

/-- The address of an access and the window decide whether CORE performs it. -/
theorem accessStop_cases (base addr bytes : Nat) :
    (accessStop base addr bytes = none ∧ base ≤ addr ∧ addr < base + 0x200 ∧ bytes = 4 ∧ (addr - base) % 4 = 0) ∨
    (accessStop base addr bytes = some .stuckAccess ∧ base ≤ addr ∧ addr < base + 0x200 ∧
      (bytes ≠ 4 ∨ (addr - base) % 4 ≠ 0)) ∨
    (accessStop base addr bytes = some .outsideWindow ∧ (addr < base ∨ base + 0x200 ≤ addr)) := by
  unfold accessStop offsetIn windowSize
  by_cases h : base ≤ addr ∧ addr < base + 0x200
  · by_cases hb : bytes = 4 <;> by_cases ha : (addr - base) % 4 = 0 <;> simp [h, hb, ha, accessDefined]
  · refine .inr (.inr ⟨by simp [h], ?_⟩)
    omega

/-- The ends of ENCODE: an error of its checks, the commit of its search, or the model fault. -/
theorem execEncode_cases (s : State) :
    (∃ e, encodeChecks s.inputs = .error e ∧ execEncode s = .next (s.raise e)) ∨
    (encodeReady s.inputs ∧ execEncode s =
      .next (s.commitSearch (cfgFormat s.inputs.cfg) (encodeSearch s.params s.inputs))) ∨
    (encodeChecks s.inputs = .ok () ∧ tileWritten s.inputs = false ∧ execEncode s = .fault .unwrittenPixel) := by
  unfold execEncode
  cases hc : encodeChecks s.inputs with
  | error e => exact .inl ⟨e, rfl, rfl⟩
  | ok u =>
    right
    cases hw : tileWritten s.inputs with
    | true => exact .inl ⟨⟨hc, hw⟩, by simp⟩
    | false => exact .inr ⟨rfl, rfl, by simp⟩

/-- What the commit of a search writes. -/
theorem commitSearch_cases (s : State) (fmt : Format) (c : CandRegs) :
    (∃ b, c.best = some b ∧ s.commitSearch fmt c =
      s.commit (packCandidate fmt b) (rinfoWord fmt b.position false) (c.bestErr.getD 0) false) ∨
    (c.best = none ∧ s.commitSearch fmt c =
      s.commit (fallbackBlock fmt) (rinfoWord fmt (fallbackPosition fmt) true) 0 true) := by
  unfold State.commitSearch
  cases h : c.best with
  | some b => exact .inl ⟨b, rfl, rfl⟩
  | none => exact .inr ⟨rfl, rfl⟩

/-- The selection keeps the least error: after an offer BEST_ERR is at most the offered error and what it was. -/
theorem offer_bestErr (c : CandRegs) (p : Position) (x : Option (Nat × Candidate)) :
    (x = none ∧ (c.offer p x).bestErr = c.bestErr ∧ (c.offer p x).best = c.best) ∨
    (∃ e k, x = some (e, k) ∧ (c.bestErr = none ∨ ∃ b, c.bestErr = some b ∧ e < b) ∧
      (c.offer p x).bestErr = some e ∧ (c.offer p x).best = some k) ∨
    (∃ e k b, x = some (e, k) ∧ c.bestErr = some b ∧ b ≤ e ∧
      (c.offer p x).bestErr = some b ∧ (c.offer p x).best = c.best) := by
  unfold CandRegs.offer
  rcases x with _ | ⟨e, k⟩
  · exact .inl ⟨rfl, rfl, rfl⟩
  · right
    cases hb : c.bestErr with
    | none => exact .inl ⟨e, k, rfl, .inl rfl, by simp, by simp⟩
    | some b =>
      by_cases he : e < b
      · exact .inl ⟨e, k, rfl, .inr ⟨b, rfl, he⟩, by simp [he], by simp [he]⟩
      · exact .inr ⟨e, k, b, rfl, rfl, by omega, by simp [he], by simp [he]⟩

end Sys2Proof.Machine
end

