-- ==== Sys2Proof/Laws/PerInstr.lean ====
section
/-! SUPPORT. Statements made per instruction: a family's `Statement` and one lemma per constructor. -/

namespace Sys2Proof.Laws

/-- `toBytes n` gives `n` bytes. -/
theorem toBytes_length (n v : Nat) : (toBytes n v).length = n := by
  induction n generalizing v with
  | zero => rfl
  | succ n ih => simp [toBytes, ih]

/-- The encoding of an instruction has the length of its kind: 4 bytes of command word, 16 of block
(30_encoding.md R136). -/
def EncodingSize.Statement (i : Instr) : Prop := (encode i).length = i.encoding.size

theorem EncodingSize.nop : EncodingSize.Statement .nop :=
  toBytes_length _ _
theorem EncodingSize.encode : EncodingSize.Statement .encode :=
  toBytes_length _ _
theorem EncodingSize.getmode : EncodingSize.Statement .getmode :=
  toBytes_length _ _
theorem EncodingSize.sreset : EncodingSize.Statement .sreset :=
  toBytes_length _ _
theorem EncodingSize.h2w : EncodingSize.Statement .h2w :=
  toBytes_length _ _
theorem EncodingSize.w2h : EncodingSize.Statement .w2h :=
  toBytes_length _ _
theorem EncodingSize.quant6 : EncodingSize.Statement .quant6 :=
  toBytes_length _ _
theorem EncodingSize.unquant6 : EncodingSize.Statement .unquant6 :=
  toBytes_length _ _
theorem EncodingSize.finish6 : EncodingSize.Statement .finish6 :=
  toBytes_length _ _
theorem EncodingSize.quant7 : EncodingSize.Statement .quant7 :=
  toBytes_length _ _
theorem EncodingSize.expand7 : EncodingSize.Statement .expand7 :=
  toBytes_length _ _
theorem EncodingSize.weight : EncodingSize.Statement .weight :=
  toBytes_length _ _
theorem EncodingSize.lerp : EncodingSize.Statement .lerp :=
  toBytes_length _ _
theorem EncodingSize.shape : EncodingSize.Statement .shape :=
  toBytes_length _ _
theorem EncodingSize.anchor : EncodingSize.Statement .anchor :=
  toBytes_length _ _
theorem EncodingSize.delta6 : EncodingSize.Statement .delta6 :=
  toBytes_length _ _
theorem EncodingSize.reservedCmd (w : Word) : EncodingSize.Statement (.reservedCmd w) :=
  toBytes_length _ _
theorem EncodingSize.bc7Mode0 (b : Block7) : EncodingSize.Statement (.bc7Mode0 b) :=
  toBytes_length _ _
theorem EncodingSize.bc7Mode1 (b : Block7) : EncodingSize.Statement (.bc7Mode1 b) :=
  toBytes_length _ _
theorem EncodingSize.bc7Mode2 (b : Block7) : EncodingSize.Statement (.bc7Mode2 b) :=
  toBytes_length _ _
theorem EncodingSize.bc7Mode3 (b : Block7) : EncodingSize.Statement (.bc7Mode3 b) :=
  toBytes_length _ _
theorem EncodingSize.bc7Mode4 (b : Block7) : EncodingSize.Statement (.bc7Mode4 b) :=
  toBytes_length _ _
theorem EncodingSize.bc7Mode5 (b : Block7) : EncodingSize.Statement (.bc7Mode5 b) :=
  toBytes_length _ _
theorem EncodingSize.bc7Mode6 (b : Block7) : EncodingSize.Statement (.bc7Mode6 b) :=
  toBytes_length _ _
theorem EncodingSize.bc7Mode7 (b : Block7) : EncodingSize.Statement (.bc7Mode7 b) :=
  toBytes_length _ _
theorem EncodingSize.bc7Reserved (rest : BitVec 120) : EncodingSize.Statement (.bc7Reserved rest) :=
  toBytes_length _ _
theorem EncodingSize.bc6hMode1 (b : Block6) : EncodingSize.Statement (.bc6hMode1 b) :=
  toBytes_length _ _
theorem EncodingSize.bc6hMode2 (b : Block6) : EncodingSize.Statement (.bc6hMode2 b) :=
  toBytes_length _ _
theorem EncodingSize.bc6hMode3 (b : Block6) : EncodingSize.Statement (.bc6hMode3 b) :=
  toBytes_length _ _
theorem EncodingSize.bc6hMode4 (b : Block6) : EncodingSize.Statement (.bc6hMode4 b) :=
  toBytes_length _ _
theorem EncodingSize.bc6hMode5 (b : Block6) : EncodingSize.Statement (.bc6hMode5 b) :=
  toBytes_length _ _
theorem EncodingSize.bc6hMode6 (b : Block6) : EncodingSize.Statement (.bc6hMode6 b) :=
  toBytes_length _ _
theorem EncodingSize.bc6hMode7 (b : Block6) : EncodingSize.Statement (.bc6hMode7 b) :=
  toBytes_length _ _
theorem EncodingSize.bc6hMode8 (b : Block6) : EncodingSize.Statement (.bc6hMode8 b) :=
  toBytes_length _ _
theorem EncodingSize.bc6hMode9 (b : Block6) : EncodingSize.Statement (.bc6hMode9 b) :=
  toBytes_length _ _
theorem EncodingSize.bc6hMode10 (b : Block6) : EncodingSize.Statement (.bc6hMode10 b) :=
  toBytes_length _ _
theorem EncodingSize.bc6hMode11 (b : Block6) : EncodingSize.Statement (.bc6hMode11 b) :=
  toBytes_length _ _
theorem EncodingSize.bc6hMode12 (b : Block6) : EncodingSize.Statement (.bc6hMode12 b) :=
  toBytes_length _ _
theorem EncodingSize.bc6hMode13 (b : Block6) : EncodingSize.Statement (.bc6hMode13 b) :=
  toBytes_length _ _
theorem EncodingSize.bc6hMode14 (b : Block6) : EncodingSize.Statement (.bc6hMode14 b) :=
  toBytes_length _ _
theorem EncodingSize.bc6hReserved13 (rest : BitVec 123) : EncodingSize.Statement (.bc6hReserved13 rest) :=
  toBytes_length _ _
theorem EncodingSize.bc6hReserved17 (rest : BitVec 123) : EncodingSize.Statement (.bc6hReserved17 rest) :=
  toBytes_length _ _
theorem EncodingSize.bc6hReserved1B (rest : BitVec 123) : EncodingSize.Statement (.bc6hReserved1B rest) :=
  toBytes_length _ _
theorem EncodingSize.bc6hReserved1F (rest : BitVec 123) : EncodingSize.Statement (.bc6hReserved1F rest) :=
  toBytes_length _ _

end Sys2Proof.Laws
end

