-- ==== Sys2Proof/Laws/Step.lean ====
section
/-! SUPPORT. What one step can do. -/

namespace Sys2Proof.Machine

/-- The reset input is asserted: the step is the hardware reset, whatever else was to happen. -/
theorem step_reset {s : State} (h : s.resetAsserted = true) : step s = .next s.pastReset.hardReset := by
  simp [step, h]

/-- The reset input is not asserted: the step is CORE's or the host's. -/
theorem step_run {s : State} (h : s.resetAsserted = false) : step s = runStep s.pastReset := by
  simp [step, h]

/-- The completion step of a running command whose latency has passed. -/
theorem step_completion {s : State} {r : Running} (h : s.seq = .busy r) (h0 : r.left = 0)
    (hr : s.resetAsserted = false) : step s = exec (decodeCmd r.pending) s.pastReset := by
  simp [step_run hr, runStep, h, busyStep, h0]

/-- With nothing to do an idle machine waits. -/
theorem step_waits {s : State} (h : s.seq = .idle) (hh : s.host = []) (hr : s.resetAsserted = false) :
    step s = .next s.pastReset := by
  simp [step_run hr, runStep, h, idleStep, hh]

/-- The host moves on an idle machine. -/
theorem step_idle_host {s : State} {e : HostEvent} {es : List HostEvent} (h : s.seq = .idle) (hh : s.host = e :: es)
    (hs : e.stop s.params.coreBase = none) (hr : s.resetAsserted = false) :
    step s = hostStep e { s.pastReset with host := es } := by
  simp [step_run hr, runStep, h, idleStep, hh, hs]

/-- The host moves while a command runs. -/
theorem step_busy_host {s : State} {r : Running} {e : HostEvent} {es : List HostEvent} (h : s.seq = .busy r)
    (hl : r.left ≠ 0) (hh : s.host = e :: es) (hs : e.stop s.params.coreBase = none) (hr : s.resetAsserted = false) :
    step s = hostStep e { s.pastReset.tick with host := es } := by
  simp [step_run hr, runStep, h, busyStep, hl, hh, hs]

/-- Everything a busy machine can do. -/
theorem busyStep_cases (r : Running) (s : State) :
    (r.left = 0 ∧ busyStep r s = exec (decodeCmd r.pending) s) ∨
    (r.left ≠ 0 ∧ busyStep r s = .next s.tick) ∨
    (∃ e es, r.left ≠ 0 ∧ s.host = e :: es ∧ e.stop s.params.coreBase = none ∧
      busyStep r s = hostStep e { s.tick with host := es }) := by
  unfold busyStep
  by_cases h0 : r.left = 0
  · exact .inl ⟨h0, by simp [h0]⟩
  · right
    cases hh : s.host with
    | nil => exact .inl ⟨h0, by simp [h0]⟩
    | cons e es =>
      cases hst : e.stop s.params.coreBase with
      | some f => exact .inl ⟨h0, by simp [h0, hst]⟩
      | none => exact .inr ⟨e, es, h0, rfl, hst, by simp [h0, hst]⟩

/-- Everything an idle machine can do. -/
theorem idleStep_cases (s : State) :
    (s.host = [] ∧ idleStep s = .next s) ∨
    (∃ e es f, s.host = e :: es ∧ e.stop s.params.coreBase = some f ∧ true ∈ s.resetIn ∧ idleStep s = .next s) ∨
    (∃ e es f, s.host = e :: es ∧ e.stop s.params.coreBase = some f ∧ true ∉ s.resetIn ∧ idleStep s = .fault f) ∨
    (∃ e es, s.host = e :: es ∧ e.stop s.params.coreBase = none ∧ idleStep s = hostStep e { s with host := es }) := by
  unfold idleStep
  cases hh : s.host with
  | nil => exact .inl ⟨rfl, rfl⟩
  | cons e es =>
    right
    cases hst : e.stop s.params.coreBase with
    | none => exact .inr (.inr ⟨e, es, rfl, hst, by simp [hst]⟩)
    | some f =>
      by_cases hm : true ∈ s.resetIn
      · exact .inl ⟨e, es, f, rfl, hst, hm, by simp [hst, stuckStep, hm]⟩
      · exact .inr (.inl ⟨e, es, f, rfl, hst, hm, by simp [hst, stuckStep, hm]⟩)

/-- Everything one step can do: a hardware reset, a step of a busy machine, or a step of an idle one. -/
theorem step_cases (s : State) :
    (s.resetAsserted = true ∧ step s = .next s.pastReset.hardReset) ∨
    (∃ r, s.resetAsserted = false ∧ s.seq = .busy r ∧ step s = busyStep r s.pastReset) ∨
    (s.resetAsserted = false ∧ s.seq = .idle ∧ step s = idleStep s.pastReset) := by
  cases hr : s.resetAsserted with
  | true => exact .inl ⟨rfl, step_reset hr⟩
  | false =>
    right
    cases hs : s.seq with
    | busy r => exact .inl ⟨r, rfl, rfl, by simp [step_run hr, runStep, hs]⟩
    | idle => exact .inr ⟨rfl, rfl, by simp [step_run hr, runStep, hs]⟩

end Sys2Proof.Machine
end

