-- ==== Sys2Proof/Tests/Slice0.lean ====
section
/-! SUPPORT. Tests: decoding of words written out from the spec's encodings, the refusals of WellFormed, one step of each
instruction, and a witness for the hypotheses of each statement. The values of a test come from 95_test_vectors.md (the
vector is named) or were worked out from the rule named, outside the model. -/

namespace Sys2Proof.Tests

open Sys2Proof Sys2Proof.Machine

set_option Elab.async false

/-! ### Small states -/

/-- The reset registers with CFG and the operands. -/
def ops (cfg a b c : Word) : RwRegs := { RwRegs.reset with cfg := cfg, opa := a, opb := b, opc := c }

/-- A command accepted on these registers, its completion step due. -/
def running (w : Word) (r : RwRegs) : State := { State.reset with rw := r }.acceptWith w 0

/-- RES and STATUS of a next state. -/
def resStatus : Outcome → Option (Word × Word)
  | .next s => some (s.res, s.status)
  | .fault _ => none
  | .refused _ => none

/-- Run one unit command. -/
def unit (w cfg a b c : Word) : Option (Word × Word) := resStatus (step (running w (ops cfg a b c)))

/-- The block in OUT, RINFO, RERR_LO and STATUS of a next state. -/
def outOf : Outcome → Option (Block × Word × Word × Word)
  | .next s => some (blockOfWords s.out, s.rinfo, s.rerrLo, s.status)
  | .fault _ => none
  | .refused _ => none

/-- The fault of an outcome. -/
def faultOf : Outcome → Option Fault
  | .next _ => none
  | .fault f => some f
  | .refused _ => none

/-- Sixteen written slots, `a` where the test holds and `b` elsewhere, each (C1:C0, C3:C2). -/
def tile (cfg force : Word) (left : Nat → Bool) (a b : Word × Word) : RwRegs :=
  { RwRegs.reset with
    cfg := cfg
    force := force
    pixLo := Vector.ofFn fun i : Fin 16 => if left i then a.1 else b.1
    pixHi := Vector.ofFn fun i : Fin 16 => if left i then a.2 else b.2
    wrLo := Vector.replicate 16 true
    wrHi := Vector.replicate 16 true }

/-- The edge tiles of 95_test_vectors.md: x < 2 and x ≥ 2. -/
def edge (i : Nat) : Bool := decide (i % 4 < 2)

/-- V-ENC-3's tile: Edge((10,20,30,255), (201,101,51,255)). -/
def edge3 (force : Word) : RwRegs := tile 0 force edge (0x0014000A, 0x00FF001E) (0x006500C9, 0x00FF0033)

/-- A 1x1 tile of one grey BC7 pixel; the other slots were never written. -/
def onePixel (cfg force : Word) : RwRegs :=
  { RwRegs.reset with
    cfg := cfg
    tiledim := 0x11
    force := force
    pixLo := RwRegs.reset.pixLo.set 0 0x00800080
    pixHi := RwRegs.reset.pixHi.set 0 0x00FF0080
    wrLo := RwRegs.reset.wrLo.set 0 true
    wrHi := RwRegs.reset.wrHi.set 0 true }

/-- A block requested from the reference decoder, under CFG. -/
def asked (fmt : Format) (cfg : Word) (blk : Block) : State :=
  { State.reset with rw := ops cfg 0 0 0, host := [.refDecode fmt blk] }

/-- The mode and two pixels of the reference decoder's answer. -/
def pixelsOf (i j : Nat) : Outcome → Option (Nat × List Nat × List Nat)
  | .next s => match s.refOut with
    | .tile _ m px => some (m, px.getD i [], px.getD j [])
    | .none => none
    | .decodeError => none
  | .fault _ => none
  | .refused _ => none

/-- The reference decoder's answer. -/
def answerOf : Outcome → RefOut
  | .next s => s.refOut
  | .fault _ => .none
  | .refused _ => .none

/-! ### Decoding: commands (30_encoding.md R110, R111) -/

theorem test_decode_nop : decode .cmd [0x00, 0x00, 0x00, 0x00] = .ok (.nop, []) := by decide

theorem test_decode_encode : decode .cmd [0x01, 0x00, 0x00, 0x00] = .ok (.encode, []) := by decide

theorem test_decode_getmode : decode .cmd [0x02, 0x00, 0x00, 0x00] = .ok (.getmode, []) := by decide

theorem test_decode_sreset : decode .cmd [0x0F, 0x00, 0x00, 0x00] = .ok (.sreset, []) := by decide

theorem test_decode_h2w : decode .cmd [0x10, 0x00, 0x00, 0x00] = .ok (.h2w, []) := by decide

theorem test_decode_w2h : decode .cmd [0x11, 0x00, 0x00, 0x00] = .ok (.w2h, []) := by decide

theorem test_decode_quant6 : decode .cmd [0x12, 0x00, 0x00, 0x00] = .ok (.quant6, []) := by decide

theorem test_decode_unquant6 : decode .cmd [0x13, 0x00, 0x00, 0x00] = .ok (.unquant6, []) := by decide

theorem test_decode_finish6 : decode .cmd [0x14, 0x00, 0x00, 0x00] = .ok (.finish6, []) := by decide

theorem test_decode_quant7 : decode .cmd [0x15, 0x00, 0x00, 0x00] = .ok (.quant7, []) := by decide

theorem test_decode_expand7 : decode .cmd [0x16, 0x00, 0x00, 0x00] = .ok (.expand7, []) := by decide

theorem test_decode_weight : decode .cmd [0x17, 0x00, 0x00, 0x00] = .ok (.weight, []) := by decide

theorem test_decode_lerp : decode .cmd [0x18, 0x00, 0x00, 0x00] = .ok (.lerp, []) := by decide

theorem test_decode_shape : decode .cmd [0x19, 0x00, 0x00, 0x00] = .ok (.shape, []) := by decide

theorem test_decode_anchor : decode .cmd [0x1A, 0x00, 0x00, 0x00] = .ok (.anchor, []) := by decide

theorem test_decode_delta6 : decode .cmd [0x1B, 0x00, 0x00, 0x00] = .ok (.delta6, []) := by decide

theorem test_decode_reserved_cmd : decode .cmd [0x1C, 0x00, 0x00, 0x00] = .ok (.reservedCmd 0x1C, []) := by decide

theorem test_decode_high_bit_reserved : decode .cmd [0x01, 0x00, 0x00, 0x80, 0x55] = .ok (.reservedCmd 0x80000001, [0x55]) := by
  decide

theorem test_decode_truncated : decode .cmd [0x01, 0x00, 0x00] = .error (.truncated .cmd 3) := by decide

theorem test_decode_block_truncated : decode .bc7 (List.replicate 15 0) = .error (.truncated .bc7 15) := by decide

/-! ### Decoding: BC7 blocks

Each block was packed outside the model, field by field in the order of 48_packer_bc7.md R361 with the widths of R360 and
the anchors of 42_partition_lut.md R202; the two pixels were worked out by R370. -/

theorem test_decode_bc7_mode0 : decodeBc7 0xD826B2A0B44103A4E5BA42C36643895B =
    .bc7Mode0
      { shape := 13, rot := 0, isb := 0
        codes := [10, 4, 12, 1, 2, 3, 11, 1, 6, 1, 2, 13, 13, 2, 7, 2, 13, 1]
        alphas := [], pbits := [0, 0, 0, 1, 0, 0]
        idx1 := [0, 2, 4, 6, 2, 0, 4, 2, 1, 3, 5, 1, 1, 0, 3, 3]
        idx2 := [] } := by decide +kernel

theorem test_step_bc7_mode0 : pixelsOf 6 13 (step (asked .bc7 0 0xD826B2A0B44103A4E5BA42C36643895B)) =
    some (0, [42, 138, 100, 255], [198, 99, 115, 255]) := by decide +kernel

theorem test_decode_bc7_mode1 : decodeBc7 0xFEDA46EAAC1BFE629F5DF9AEEBBA3646 =
    .bc7Mode1
      { shape := 17, rot := 0, isb := 0
        codes := [54, 40, 59, 58, 46, 38, 31, 23, 31, 10, 38, 63]
        alphas := [], pbits := [1, 1]
        idx1 := [2, 1, 0, 6, 2, 5, 2, 7, 6, 0, 1, 5, 5, 5, 7, 7]
        idx2 := [] } := by decide +kernel

theorem test_step_bc7_mode1 : pixelsOf 6 13 (step (asked .bc7 0 0xFEDA46EAAC1BFE629F5DF9AEEBBA3646)) =
    some (1, [203, 178, 102, 255], [179, 164, 66, 255]) := by decide +kernel

theorem test_decode_bc7_mode2 : decodeBc7 0xEDBA7D60FE755BA1B625C98C9E89491C =
    .bc7Mode2
      { shape := 35, rot := 0, isb := 0
        codes := [4, 5, 17, 30, 4, 3, 19, 28, 18, 24, 22, 1, 29, 22, 10, 7, 31, 3]
        alphas := [], pbits := []
        idx1 := [0, 2, 1, 1, 3, 1, 3, 0, 1, 3, 1, 2, 1, 3, 2, 3]
        idx2 := [] } := by decide +kernel

theorem test_step_bc7_mode2 : pixelsOf 6 13 (step (asked .bc7 0 0xEDBA7D60FE755BA1B625C98C9E89491C)) =
    some (2, [24, 8, 24, 255], [247, 198, 57, 255]) := by decide +kernel

theorem test_decode_bc7_mode3 : decodeBc7 0x13CFF8D4D77C06EDDA65A5533BC36E28 =
    .bc7Mode3
      { shape := 34, rot := 0, isb := 0
        codes := [91, 97, 59, 38, 21, 45, 38, 59, 59, 3, 124, 46]
        alphas := [], pbits := [1, 1, 0, 0]
        idx1 := [1, 2, 2, 1, 0, 3, 1, 3, 3, 3, 0, 3, 3, 0, 1, 0]
        idx2 := [] } := by decide +kernel

theorem test_step_bc7_mode3 : pixelsOf 6 13 (step (asked .bc7 0 0x13CFF8D4D77C06EDDA65A5533BC36E28)) =
    some (3, [104, 90, 197, 255], [183, 43, 119, 255]) := by decide +kernel

theorem test_decode_bc7_mode4 : decodeBc7 0x81561794A33FE1D4E840034753AB8DD0 =
    .bc7Mode4
      { shape := 0, rot := 2, isb := 1
        codes := [13, 28, 10, 7, 21, 3]
        alphas := [13, 0], pbits := []
        idx1 := [0, 0, 2, 0, 0, 1, 3, 1, 2, 2, 2, 3, 0, 0, 3, 3]
        idx2 := [3, 7, 4, 1, 2, 1, 5, 4, 7, 2, 0, 3, 5, 2, 0, 4] } := by decide +kernel

theorem test_step_bc7_mode4 : pixelsOf 6 13 (step (asked .bc7 0 0x81561794A33FE1D4E840034753AB8DD0)) =
    some (4, [196, 0, 66, 64], [142, 52, 131, 75]) := by decide +kernel

theorem test_decode_bc7_mode5 : decodeBc7 0xC2CD9D1373705AE9CAA1CDB5576117E0 =
    .bc7Mode5
      { shape := 0, rot := 3, isb := 0
        codes := [23, 66, 93, 42, 91, 57]
        alphas := [168, 114], pbits := []
        idx1 := [0, 1, 3, 1, 1, 3, 2, 0, 0, 2, 3, 2, 1, 2, 3, 2]
        idx2 := [1, 0, 1, 0, 1, 3, 1, 2, 1, 3, 0, 3, 2, 0, 0, 3] } := by decide +kernel

theorem test_step_bc7_mode5 : pixelsOf 6 13 (step (asked .bc7 0 0xC2CD9D1373705AE9CAA1CDB5576117E0)) =
    some (5, [104, 118, 150, 137], [104, 118, 168, 137]) := by decide +kernel

theorem test_decode_bc7_mode6 : decodeBc7 0xD430044BF4E40454F6CA5AAEF5BE99C0 =
    .bc7Mode6
      { shape := 0, rot := 0, isb := 0
        codes := [51, 122, 45, 111, 85, 22, 101, 118]
        alphas := [], pbits := [1, 0]
        idx1 := [2, 5, 4, 0, 4, 14, 4, 15, 11, 4, 4, 0, 0, 3, 4, 13]
        idx2 := [] } := by decide +kernel

theorem test_step_bc7_mode6 : pixelsOf 6 13 (step (asked .bc7 0 0xD430044BF4E40454F6CA5AAEF5BE99C0)) =
    some (6, [140, 126, 137, 212], [132, 118, 145, 210]) := by decide +kernel

theorem test_decode_bc7_mode7 : decodeBc7 0x094386A911AED868D428F936016B3080 =
    .bc7Mode7
      { shape := 48, rot := 0, isb := 0
        codes := [12, 13, 1, 16, 13, 18, 15, 20, 16, 26, 8, 3, 22, 29, 26, 8]
        alphas := [], pbits := [0, 0, 1, 0]
        idx1 := [0, 1, 1, 1, 3, 0, 0, 2, 3, 0, 0, 1, 1, 2, 0, 0]
        idx2 := [] } := by decide +kernel

theorem test_step_bc7_mode7 : pixelsOf 6 13 (step (asked .bc7 0 0x094386A911AED868D428F936016B3080)) =
    some (7, [12, 125, 69, 215], [102, 133, 184, 216]) := by decide +kernel

theorem test_decode_bc7_reserved : decodeBc7 0x0123456789ABCDEF0123456789ABCD00 =
    .bc7Reserved 0x0123456789ABCDEF0123456789ABCD := by decide +kernel

theorem test_step_bc7_reserved : answerOf (step (asked .bc7 0 0x0123456789ABCDEF0123456789ABCD00)) = .decodeError := by
  decide +kernel

/-- V-SEL-1: the blocks of the forced candidates, with pixels 0 and 3. -/
theorem test_vsel1_decodes : ∀ x ∈ ([
    (0xF803800000026626622C2CC238198001, 0, [8, 24, 24, 255], [198, 99, 49, 255]),
    (0x00000000000134D1C7659104CB208202, 1, [10, 18, 30, 255], [201, 100, 52, 255]),
    (0xE06000018863108C1318216038C04204, 2, [8, 16, 33, 255], [198, 99, 49, 255]),
    (0x000000030C991E3D932142B2640A1408, 3, [10, 20, 30, 255], [201, 101, 51, 255]),
    (0xFC0FC0FC0FC1E1E1E1E3108C460BFFB0, 4, [8, 16, 33, 255], [199, 99, 49, 255]),
    (0xF0F0F0F1E1E1E1E0CC7BFFF642B205E0, 5, [10, 20, 30, 255], [201, 100, 51, 255]),
    (0xFF00FF00FF00FF017FFE647B215902C0, 6, [10, 20, 30, 254], [201, 101, 51, 255]),
    (0x00000003FFFFFCC618D8C10B18084080, 7, [12, 20, 28, 255], [199, 101, 52, 255])] : List (Block × Nat × List Nat × List Nat)),
    pixelsOf 0 3 (step (asked .bc7 0 x.1)) = some x.2 := by decide +kernel

/-! ### Decoding: BC6H blocks

Each block was packed outside the model from the layout table of 49_packer_bc6h.md R392 and the indices of R393; the two
pixels were worked out by R396, under the signed format for odd modes. -/

theorem test_decode_bc6h_mode1 : decodeBc6h 0xA8C67337E3AE37E3C60299E1021CF3CC =
    .bc6hMode1
      { shape := 17
        ends := [926, 57, 129, 28, 20, 12, 17, 28, 30, 15, 16, 12]
        idx := [3, 2, 3, 1, 6, 7, 5, 1, 3, 6, 1, 3, 4, 1, 2, 5] } := by decide +kernel

theorem test_step_bc6h_mode1 : pixelsOf 6 13 (step (asked .bc6h 3 0xA8C67337E3AE37E3C60299E1021CF3CC)) =
    some (1, [39053, 3030, 8563], [38909, 3460, 8133]) := by decide +kernel

theorem test_decode_bc6h_mode2 : decodeBc6h 0x970FE94DAF5E4E6486239DDE47A0748D =
    .bc6hMode2
      { shape := 18
        ends := [36, 64, 35, 59, 28, 12, 50, 62, 20, 28, 20, 55]
        idx := [3, 5, 6, 3, 5, 5, 1, 5, 0, 5, 7, 7, 0, 6, 5, 4] } := by decide +kernel

theorem test_step_bc6h_mode2 : pixelsOf 6 13 (step (asked .bc6h 1 0x970FE94DAF5E4E6486239DDE47A0748D)) =
    some (2, [8877, 16972, 9222], [14531, 20188, 7583]) := by decide +kernel

theorem test_decode_bc6h_mode3 : decodeBc6h 0x2110E421BD6858E2A424423750E720E2 =
    .bc6hMode3
      { shape := 2
        ends := [263, 462, 936, 6, 2, 8, 17, 1, 5, 17, 4, 13]
        idx := [2, 6, 2, 7, 5, 1, 4, 0, 2, 6, 1, 4, 0, 1, 4, 0] } := by decide +kernel

theorem test_step_bc6h_mode3 : pixelsOf 6 13 (step (asked .bc6h 3 0x2110E421BD6858E2A424423750E720E2)) =
    some (3, [7703, 14422, 29043], [7703, 14382, 29151]) := by decide +kernel

theorem test_decode_bc6h_mode4 : decodeBc6h 0x82C5E391A1228A751813B418768871C6 =
    .bc6hMode4
      { shape := 20
        ends := [910, 272, 1083, 3, 29, 0, 10, 26, 8, 4, 2, 7]
        idx := [0, 2, 2, 0, 2, 3, 4, 4, 3, 4, 7, 2, 4, 5, 0, 4] } := by decide +kernel

theorem test_step_bc6h_mode4 : pixelsOf 6 13 (step (asked .bc6h 1 0x82C5E391A1228A751813B418768871C6)) =
    some (4, [14139, 4197, 16794], [14146, 4190, 16794]) := by decide +kernel

theorem test_decode_bc6h_mode5 : decodeBc6h 0x2168422E4EB78FBD67E5E730961F12EA =
    .bc6hMode5
      { shape := 28
        ends := [151, 62, 75, 6, 15, 15, 14, 3, 27, 15, 12, 19]
        idx := [1, 3, 5, 3, 2, 6, 5, 0, 1, 0, 1, 4, 6, 2, 0, 1] } := by decide +kernel

theorem test_step_bc6h_mode5 : pixelsOf 6 13 (step (asked .bc6h 3 0x2168422E4EB78FBD67E5E730961F12EA)) =
    some (5, [4656, 1874, 2007], [4748, 1928, 2471]) := by decide +kernel

theorem test_decode_bc6h_mode6 : decodeBc6h 0x739D42AE075A6E162E805495F09070CE =
    .bc6hMode6
      { shape := 19
        ends := [390, 288, 248, 18, 2, 29, 11, 10, 17, 28, 0, 16]
        idx := [2, 5, 2, 3, 0, 4, 3, 5, 2, 0, 5, 6, 1, 7, 4, 3] } := by decide +kernel

theorem test_step_bc6h_mode6 : pixelsOf 6 13 (step (asked .bc6h 1 0x739D42AE075A6E162E805495F09070CE)) =
    some (6, [24500, 18245, 14450], [23343, 18011, 15221]) := by decide +kernel

theorem test_decode_bc6h_mode7 : decodeBc6h 0x05858317B916C167349CA50C5C016FF2 =
    .bc6hMode7
      { shape := 22
        ends := [127, 2, 46, 33, 5, 9, 51, 2, 25, 2, 19, 19]
        idx := [1, 1, 2, 6, 5, 7, 2, 4, 1, 0, 6, 2, 0, 3, 1, 0] } := by decide +kernel

theorem test_step_bc6h_mode7 : pixelsOf 6 13 (step (asked .bc6h 3 0x05858317B916C167349CA50C5C016FF2)) =
    some (7, [29545, 968, 12159], [3024, 33326, 9168]) := by decide +kernel

theorem test_decode_bc6h_mode8 : decodeBc6h 0xE77EDB0CE49E4F87EE0E0433702202B6 =
    .bc6hMode8
      { shape := 18
        ends := [21, 68, 184, 6, 48, 28, 3, 2, 15, 31, 33, 0]
        idx := [3, 1, 1, 1, 7, 4, 1, 4, 1, 3, 3, 7, 7, 6, 1, 7] } := by decide +kernel

theorem test_step_bc6h_mode8 : pixelsOf 6 13 (step (asked .bc6h 1 0xE77EDB0CE49E4F87EE0E0433702202B6)) =
    some (8, [2770, 8215, 22808], [2611, 5225, 23139]) := by decide +kernel

theorem test_decode_bc6h_mode9 : decodeBc6h 0x1CC67FF2764F006035752720CB0BF27A =
    .bc6hMode9
      { shape := 24
        ends := [147, 23, 101, 4, 9, 42, 16, 19, 17, 0, 30, 7]
        idx := [3, 4, 0, 3, 7, 4, 4, 7, 7, 7, 1, 3, 4, 1, 7, 0] } := by decide +kernel

theorem test_step_bc6h_mode9 : pixelsOf 6 13 (step (asked .bc6h 3 0x1CC67FF2764F006035752720CB0BF27A)) =
    some (9, [59350, 7118, 22017], [59784, 6141, 24404]) := by decide +kernel

theorem test_decode_bc6h_mode10 : decodeBc6h 0x9BF086FDD32BC5B5389455CA131D1CBE =
    .bc6hMode10
      { shape := 30
        ends := [37, 58, 9, 57, 34, 49, 26, 26, 9, 11, 18, 33]
        idx := [2, 2, 2, 1, 5, 3, 7, 7, 6, 0, 2, 0, 7, 7, 6, 4] } := by decide +kernel

theorem test_step_bc6h_mode10 : pixelsOf 6 13 (step (asked .bc6h 1 0x9BF086FDD32BC5B5389455CA131D1CBE)) =
    some (10, [28520, 17112, 24552], [5704, 9176, 16616]) := by decide +kernel

theorem test_decode_bc6h_mode11 : decodeBc6h 0xB2CC2B89063CAA0A7BD0F81581AA2403 =
    .bc6hMode11
      { shape := 0
        ends := [288, 852, 704, 770, 647, 247]
        idx := [5, 0, 10, 10, 12, 3, 6, 0, 9, 8, 11, 2, 12, 12, 2, 11] } := by decide +kernel

theorem test_step_bc6h_mode11 : pixelsOf 6 13 (step (asked .bc6h 3 0xB2CC2B89063CAA0A7BD0F81581AA2403)) =
    some (11, [4210, 48626, 38332], [41708, 53591, 8191]) := by decide +kernel

theorem test_decode_bc6h_mode12 : decodeBc6h 0xED126C0DB6AD87481A4D18F98A33DB27 =
    .bc6hMode12
      { shape := 0
        ends := [1753, 1127, 197, 287, 104, 52]
        idx := [4, 4, 7, 8, 13, 10, 6, 11, 13, 0, 12, 6, 2, 1, 13, 14] } := by decide +kernel

theorem test_step_bc6h_mode12 : pixelsOf 6 13 (step (asked .bc6h 1 0xED126C0DB6AD87481A4D18F98A33DB27)) =
    some (12, [25762, 18131, 3388], [26961, 17577, 3111]) := by decide +kernel

theorem test_decode_bc6h_mode13 : decodeBc6h 0x2553CF97C8899ADFABA830CF12940DEB =
    .bc6hMode13
      { shape := 0
        ends := [1135, 2344, 3977, 25, 65, 87]
        idx := [7, 13, 10, 9, 9, 8, 8, 12, 7, 9, 15, 12, 3, 5, 5, 2] } := by decide +kernel

theorem test_step_bc6h_mode13 : pixelsOf 6 13 (step (asked .bc6h 3 0x2553CF97C8899ADFABA830CF12940DEB)) =
    some (13, [17806, 59396, 33903], [17727, 59601, 34177]) := by decide +kernel

theorem test_decode_bc6h_mode14 : decodeBc6h 0xCD068B7A2A52764C777F4B714F404DCF =
    .bc6hMode14
      { shape := 0
        ends := [27246, 65152, 28839, 14, 10, 14]
        idx := [6, 4, 6, 7, 2, 5, 10, 2, 10, 7, 11, 8, 6, 0, 13, 12] } := by decide +kernel

theorem test_step_bc6h_mode14 : pixelsOf 6 13 (step (asked .bc6h 1 0xCD068B7A2A52764C777F4B714F404DCF)) =
    some (14, [13196, 31556, 13968], [13197, 31558, 13968]) := by decide +kernel

theorem test_decode_bc6h_reserved_13 : decodeBc6h 0x02468ACF13579BDE02468ACF13579BD3 =
    .bc6hReserved13 0x0123456789ABCDEF0123456789ABCDE := by decide +kernel

theorem test_step_bc6h_reserved_13 : answerOf (step (asked .bc6h 1 0x02468ACF13579BDE02468ACF13579BD3)) = .decodeError := by decide +kernel

theorem test_decode_bc6h_reserved_17 : decodeBc6h 0x02468ACF13579BDE02468ACF13579BD7 =
    .bc6hReserved17 0x0123456789ABCDEF0123456789ABCDE := by decide +kernel

theorem test_step_bc6h_reserved_17 : answerOf (step (asked .bc6h 1 0x02468ACF13579BDE02468ACF13579BD7)) = .decodeError := by decide +kernel

theorem test_decode_bc6h_reserved_1B : decodeBc6h 0x02468ACF13579BDE02468ACF13579BDB =
    .bc6hReserved1B 0x0123456789ABCDEF0123456789ABCDE := by decide +kernel

theorem test_step_bc6h_reserved_1B : answerOf (step (asked .bc6h 1 0x02468ACF13579BDE02468ACF13579BDB)) = .decodeError := by decide +kernel

theorem test_decode_bc6h_reserved_1F : decodeBc6h 0x02468ACF13579BDE02468ACF13579BDF =
    .bc6hReserved1F 0x0123456789ABCDEF0123456789ABCDE := by decide +kernel

theorem test_step_bc6h_reserved_1F : answerOf (step (asked .bc6h 1 0x02468ACF13579BDE02468ACF13579BDF)) = .decodeError := by decide +kernel

/-- V-SEL-2 and V-ENC-1: blocks, CFG, and the red half pattern of pixels 0 and 3. -/
theorem test_vsel2_decodes : ∀ x ∈ ([
    (0x000000000000000000000003DEF7BDE0, 1, 0x3C00, 0x3C00), (0x000000000000000000000003DEF7BDE2, 3, 0x3C00, 0x3C00),
    (0x000000000000028AA0280A007A9E97A1, 1, 0x3B94, 0x406C), (0x0000000000000186601806003C0F33C1, 3, 0x3B18, 0x40E8),
    (0x0000000000001493204C1200F63D8F6E, 3, 0x3BD2, 0x402E), (0x0000000000000493204C1202F63D8F72, 1, 0x3BD2, 0x402E),
    (0x000000000000149320481200F63DAF76, 1, 0x3BD2, 0x402E), (0x0000000000001493204C1200F63D8F7A, 1, 0x3BD2, 0x402E),
    (0x00000000000010C22F0BC2F2BC6F13DE, 1, 0x3B18, 0x40E8), (0xFF00FF00FF00FF0108421083DEF7BDE3, 1, 0x3C00, 0x3FFF),
    (0xFF00FF00FF00FF002188621FBDEF7BC7, 1, 0x3BF8, 0x4007), (0xFF00FF00FF00FF0021084217BFEFFBEB, 3, 0x3C08, 0x4007)
    ] : List (Block × Word × Nat × Nat)),
    (pixelsOf 0 3 (step (asked .bc6h x.2.1 x.1))).map (fun p => (p.2.1.getD 0 0, p.2.2.getD 0 0)) = some x.2.2 := by
  decide +kernel

/-! ### Encoding gives the words back -/

theorem test_encode_lerp : encode .lerp = [0x18, 0x00, 0x00, 0x00] := by decide

theorem test_encode_bc7_mode1 : encodeBlock (.bc7Mode1
      { shape := 17, rot := 0, isb := 0
        codes := [54, 40, 59, 58, 46, 38, 31, 23, 31, 10, 38, 63]
        alphas := [], pbits := [1, 1]
        idx1 := [2, 1, 0, 6, 2, 5, 2, 7, 6, 0, 1, 5, 5, 5, 7, 7]
        idx2 := [] }) =
    0xFEDA46EAAC1BFE629F5DF9AEEBBA3646 := by decide +kernel

theorem test_encode_bc6h_mode8 : encodeBlock (.bc6hMode8
      { shape := 18
        ends := [21, 68, 184, 6, 48, 28, 3, 2, 15, 31, 33, 0]
        idx := [3, 1, 1, 1, 7, 4, 1, 4, 1, 3, 3, 7, 7, 6, 1, 7] }) =
    0xE77EDB0CE49E4F87EE0E0433702202B6 := by decide +kernel

/-! ### WellFormed refuses -/

/-- The fields of the BC7 fallback block of mode 0. -/
def zero7 : Block7 := ⟨0, 0, 0, List.replicate 18 0, [], List.replicate 6 0, List.replicate 16 0, []⟩

/-- All-zero fields of BC7 mode 4. -/
def zero74 : Block7 := ⟨0, 0, 0, List.replicate 6 0, [0, 0], [], List.replicate 16 0, List.replicate 16 0⟩

/-- All-zero fields of BC6H mode 1. -/
def zero6 : Block6 := ⟨0, List.replicate 12 0, List.replicate 16 0⟩

theorem test_wf_accepts : (Instr.bc7Mode0 zero7).wf = true ∧ (Instr.bc7Mode4 zero74).wf = true ∧
    (Instr.bc6hMode1 zero6).wf = true ∧ (Instr.reservedCmd 0x03).wf = true := by decide

theorem test_wf_refuses_defined_word_as_reserved : (Instr.reservedCmd 0x10).wf = false := by decide

theorem test_wf_refuses_wide_shape : (Instr.bc7Mode0 { zero7 with shape := 16 }).wf = false := by decide

theorem test_wf_refuses_rotation_without_field : (Instr.bc7Mode0 { zero7 with rot := 1 }).wf = false := by decide

theorem test_wf_refuses_isb_without_field : (Instr.bc7Mode0 { zero7 with isb := 1 }).wf = false := by decide

theorem test_wf_refuses_wide_code : (Instr.bc7Mode0 { zero7 with codes := List.replicate 17 0 ++ [16] }).wf = false := by
  decide

theorem test_wf_refuses_missing_code : (Instr.bc7Mode0 { zero7 with codes := List.replicate 17 0 }).wf = false := by decide

theorem test_wf_refuses_wide_alpha : (Instr.bc7Mode4 { zero74 with alphas := [0, 64] }).wf = false := by decide

theorem test_wf_refuses_wide_pbit : (Instr.bc7Mode0 { zero7 with pbits := [0, 0, 0, 0, 0, 2] }).wf = false := by decide

theorem test_wf_refuses_anchor_top_bit : (Instr.bc7Mode0 { zero7 with idx1 := 4 :: List.replicate 15 0 }).wf = false := by
  decide

theorem test_wf_refuses_second_index : (Instr.bc7Mode4 { zero74 with idx2 := 4 :: List.replicate 15 0 }).wf = false := by
  decide

theorem test_wf_refuses_bc6h_shape : (Instr.bc6hMode1 { zero6 with shape := 32 }).wf = false := by decide

theorem test_wf_refuses_wide_delta : (Instr.bc6hMode1 { zero6 with ends := List.replicate 11 0 ++ [32] }).wf = false := by
  decide

theorem test_wf_refuses_bc6h_anchor : (Instr.bc6hMode1 { zero6 with idx := 4 :: List.replicate 15 0 }).wf = false := by
  decide

/-! ### One step of each command (95_test_vectors.md) -/

theorem test_nop : unit 0x00 0 7 8 9 = some (0, 0x00000002) := by decide +kernel

/-- The program shape of SRESET: CFG and RES back at reset, CMD kept, STATUS 0x00000002 (70_reset_and_hazards.md R452). -/
theorem test_sreset : ∃ t, step (running 0x0F (ops 0x3F 1 2 3)) = .next t ∧ t.rw = RwRegs.reset ∧ t.cmd = 0x0F ∧
    t.status = 0x00000002 := ⟨_, rfl, by decide +kernel⟩

/-- V-PK-1. -/
theorem test_getmode_bc7 : resStatus (step (running 0x02 { ops 0 0 0 0 with bin := #v[0xFFFFFF40, 0, 0, 0] })) =
    some (6, 0x00000002) := by decide +kernel

/-- V-PK-2 and the error of R395. -/
theorem test_getmode_bc6h_reserved : resStatus (step (running 0x02 { ops 1 0 0 0 with bin := #v[0x00000013, 0, 0, 0] })) =
    some (0xFFFFFFFF, 0x00000066) := by decide +kernel

/-- V-HF-1. -/
theorem test_h2w_signed : unit 0x10 2 0xFFFFBC00 0 0 = some (0xFFFFC400, 0x00000002) := by decide +kernel

theorem test_h2w_infinity_unsigned : unit 0x10 0 0x00007C00 0 0 = some (31743, 0x00000002) := by decide +kernel

/-- V-HF-2. -/
theorem test_w2h_most_negative : unit 0x11 2 0x80000000 0 0 = some (0xFBFF, 0x00000002) := by decide +kernel

theorem test_w2h_clamps : unit 0x11 0 40000 0 0 = some (0x7BFF, 0x00000002) := by decide +kernel

/-- V-Q6-1, with OPB bits above the field set. -/
theorem test_quant6_bias : unit 0x12 0 0xFFFFFFFB 0xFFFFFFF0 0 = some (1, 0x00000002) := by decide +kernel

/-- V-Q6-2. -/
theorem test_quant6_signed : unit 0x12 2 0xFFFFC400 10 0 = some (0xFFFFFF09, 0x00000002) := by decide +kernel

/-- V-Q6-3. -/
theorem test_unquant6_signed_end : unit 0x13 2 0xFFFFFE00 10 0 = some (0xFFFF8001, 0x00000002) := by decide +kernel

theorem test_unquant6_precision_first : unit 0x13 0 0xFFFFFFFF 5 0 = some (0, 0x00000056) := by decide +kernel

/-- V-Q6-5. -/
theorem test_finish6_signed : unit 0x14 2 0xFFFF8000 0 0 = some (0xFFFF8400, 0x00000002) := by decide +kernel

theorem test_finish6_out_of_range : unit 0x14 0 65536 0 0 = some (0, 0x00000076) := by decide +kernel

/-- V-Q7-1 and V-Q7-2. -/
theorem test_quant7 : unit 0x15 0 128 5 0 = some (16, 0x00000002) ∧ unit 0x15 0 128 0x306 0 = some (31, 0x00000002) := by
  decide +kernel

theorem test_quant7_width : unit 0x15 0 0 0x108 0 = some (0, 0x00000056) := by decide +kernel

/-- V-Q7-3. -/
theorem test_expand7 : unit 0x16 0 100 7 0 = some (201, 0x00000002) := by decide +kernel

theorem test_expand7_operand : unit 0x16 0 16 4 0 = some (0, 0x00000076) := by decide +kernel

/-- V-PAL-1. -/
theorem test_weight : unit 0x17 0 3 4 0 = some (37, 0x00000002) := by decide +kernel

theorem test_weight_operand : unit 0x17 0 2 4 0 = some (0, 0x00000076) := by decide +kernel

/-- V-PAL-2. -/
theorem test_lerp_floor : unit 0x18 0 0xFFFFFFFF 0 0x104 = some (0xFFFFFFFF, 0x00000002) := by decide +kernel

theorem test_lerp_operand : unit 0x18 0 65536 0 0x002 = some (0, 0x00000076) := by decide +kernel

/-- V-LUT-1. -/
theorem test_shape : unit 0x19 0 3 63 0 = some (0x2A4A5254, 0x00000002) := by decide +kernel

theorem test_shape_error : unit 0x19 0 2 64 0 = some (0, 0x00000046) := by decide +kernel

theorem test_anchor : unit 0x1A 0 3 15 0 = some (0x00000830, 0x00000002) := by decide +kernel

theorem test_anchor_error : unit 0x1A 0 1 1 0 = some (0, 0x00000046) := by decide +kernel

/-- V-Q6-6. -/
theorem test_delta6_overflow : unit 0x1B 0 0 0xFFFFFFEF 5 = some (0x8000000F, 0x00000002) := by decide +kernel

theorem test_delta6_precision : unit 0x1B 0 0 0 17 = some (0, 0x00000056) := by decide +kernel

/-- 30_encoding.md R111. -/
theorem test_reserved_cmd : unit 0x1C 0 0 0 0 = some (0, 0x00000016) := by decide +kernel

/-- V-SEL-1, mode 6: the forced candidate of the V-ENC-3 tile; FORCE is EN, MODE 6. -/
theorem test_encode_forced_mode6 : outOf (step (running 0x01 (edge3 0x0000000D))) =
    some (0xFF00FF00FF00FF017FFE647B215902C0, 0x0000000D, 8, 0x00000002) := by decide +kernel

/-- Program P7: the forced mode 14 of BC6H is INVALID on this tile. -/
theorem test_encode_fallback :
    outOf (step (running 0x01 (tile 0x00000001 0x0000001D (fun i => decide (i < 8)) (0, 0) (0x3C003C00, 0x00003C00)))) =
    some (0, 0x0000C003, 0, 0x00000202) := by decide +kernel

/-! ### The host's two questions -/

theorem test_decode_table_word : decodeTableWord 32 0x16 = some .expand7 ∧ decodeTableWord 8 0x80 =
    some (.bc7Mode7 ⟨0, 0, 0, List.replicate 16 0, [], [0, 0, 0, 0], List.replicate 16 0, []⟩) ∧
    decodeTableWord 8 0x1F = some (.bc6hReserved1F 0) := by decide +kernel

theorem test_with_fetch_word : step (State.reset.withFetchWord 32 0x1C) = exec (.reservedCmd 0x1C)
    (State.reset.withFetchWord 32 0x1C) := rfl

/-! ### Witnesses: concrete states and operands that meet the hypotheses of the statements -/

/-- The input registers of a running command are its latched copy. -/
theorem running_inputs (w : Word) (r : RwRegs) : (running w r).inputs = r := rfl

theorem witness_reserved_words : ∀ n ∈ [0x03, 0x0E, 0x1C, 0xFF, 0x100, 0x80000001],
    (3 ≤ (BitVec.ofNat 32 n).toNat % 256 ∧ (BitVec.ofNat 32 n).toNat % 256 ≤ 14) ∨
    28 ≤ (BitVec.ofNat 32 n).toNat % 256 ∨ 256 ≤ (BitVec.ofNat 32 n).toNat := by decide +kernel

/-- GETMODE of a block with this BIN0. -/
def modeQuery (cfg bin0 : Word) : State := running 0x02 { ops cfg 0 0 0 with bin := #v[bin0, 0, 0, 0] }

theorem witness_getmode_bc7 : ∀ x ∈ [(0, (0xFFFFFFFF : Word)), (3, 0x00000F18), (7, 0xFFFFFF80)],
    cfgFormat (modeQuery 0 x.2).inputs.cfg = .bc7 ∧ x.1 < 8 ∧
    (modeQuery 0 x.2).inputs.bin[0].toNat % 2 ^ (x.1 + 1) = 2 ^ x.1 := by decide +kernel

theorem witness_getmode_bc7_reserved : cfgFormat (modeQuery 0 0xFFFFFF00).inputs.cfg = .bc7 ∧
    (modeQuery 0 0xFFFFFF00).inputs.bin[0].toNat % 256 = 0 := by decide +kernel

theorem witness_getmode_bc6h : cfgFormat (modeQuery 1 0).inputs.cfg = .bc6h ∧
    (modeQuery 1 0xFFFFFFFC).inputs.bin[0].toNat % 4 = 0 ∧ (modeQuery 1 0xFFFFFFFD).inputs.bin[0].toNat % 4 = 1 ∧
    (modeQuery 1 0xFFFFFFE2).inputs.bin[0].toNat % 32 = 0x02 ∧ (modeQuery 1 0xFFFFFFEF).inputs.bin[0].toNat % 32 = 0x0F ∧
    (modeQuery 1 0xFFFFFFF3).inputs.bin[0].toNat % 32 = 0x13 ∧ (modeQuery 1 0xFFFFFFFF).inputs.bin[0].toNat % 32 = 0x1F := by
  decide +kernel

theorem witness_h2w : ∃ (s : State) (h : Nat), h = s.inputs.opa.toNat % 2 ^ 16 ∧ ¬h < 2 ^ 15 ∧ cfgSigned s.inputs.cfg = true :=
  ⟨running 0x10 (ops 2 0xFFFF 0 0), 0xFFFF, by decide +kernel⟩

theorem witness_w2h : (cfgSigned (running 0x11 (ops 0 0x80000000 0 0)).inputs.cfg = false) ∧
    (cfgSigned (running 0x11 (ops 2 0 0 0)).inputs.cfg = true ∧ 0 ≤ (running 0x11 (ops 2 0 0 0)).inputs.opa.toInt) ∧
    (cfgSigned (running 0x11 (ops 2 0xFFFFFFFF 0 0)).inputs.cfg = true ∧
      (running 0x11 (ops 2 0xFFFFFFFF 0 0)).inputs.opa.toInt < 0) := by decide +kernel

/-- The precisions on both sides of the legal set, with the operand signs of the clauses. -/
theorem witness_quant6 : (∀ p ∈ [6, 12, 16],
      (running 0x12 (ops 0 0 (BitVec.ofNat 32 p) 0)).inputs.opb.toNat % 32 = p ∧ p ∈ [6, 7, 8, 9, 10, 11, 12, 16]) ∧
    (∀ p ∈ [0, 5, 13, 15, 17, 31],
      (running 0x12 (ops 0 0 (BitVec.ofNat 32 p) 0)).inputs.opb.toNat % 32 = p ∧ p ∉ [6, 7, 8, 9, 10, 11, 12, 16]) ∧
    cfgSigned (ops 0 0 0 0).cfg = false ∧ cfgSigned (ops 2 0 0 0).cfg = true ∧ 0 ≤ (ops 2 0 0 0).opa.toInt ∧
    (ops 2 0xFFFFFFFF 0 0).opa.toInt < 0 := by decide +kernel

/-- q at the ends of the range and just past them, p = 6 and p = 16. -/
theorem witness_unquant6 : (∀ x ∈ [(6, 0), (6, 63), (16, 65535)], (0 : Int) ≤ x.2 ∧ x.2 < 2 ^ x.1 ∧
      x.2 = (running 0x13 (ops 0 (BitVec.ofInt 32 x.2) (BitVec.ofNat 32 x.1) 0)).inputs.opa.toInt) ∧
    (∀ x ∈ [(6, -1), (6, 64)], ¬((0 : Int) ≤ x.2 ∧ x.2 < 2 ^ x.1) ∧
      x.2 = (running 0x13 (ops 0 (BitVec.ofInt 32 x.2) (BitVec.ofNat 32 x.1) 0)).inputs.opa.toInt) ∧
    (∀ x ∈ [(6, -32), (6, 31), (16, -32768), (16, 32767)], -2 ^ (x.1 - 1) ≤ (x.2 : Int) ∧ x.2 < 2 ^ (x.1 - 1) ∧
      x.2 = (running 0x13 (ops 2 (BitVec.ofInt 32 x.2) (BitVec.ofNat 32 x.1) 0)).inputs.opa.toInt) ∧
    (∀ x ∈ [(6, -33), (6, 32)], ¬(-2 ^ (x.1 - 1) ≤ (x.2 : Int) ∧ x.2 < 2 ^ (x.1 - 1)) ∧
      x.2 = (running 0x13 (ops 2 (BitVec.ofInt 32 x.2) (BitVec.ofNat 32 x.1) 0)).inputs.opa.toInt) ∧
    (∀ p ∈ [5, 13], p = (running 0x13 (ops 2 0 (BitVec.ofNat 32 p) 0)).inputs.opb.toNat % 32 ∧
      p ∉ [6, 7, 8, 9, 10, 11, 12, 16]) ∧ cfgSigned (ops 0 0 0 0).cfg = false ∧ cfgSigned (ops 2 0 0 0).cfg = true := by decide +kernel

theorem witness_finish6 : (∀ c ∈ [(0 : Int), 65535], 0 ≤ c ∧ c ≤ 65535 ∧
      c = (running 0x14 (ops 0 (BitVec.ofInt 32 c) 0 0)).inputs.opa.toInt) ∧
    (∀ c ∈ [(-1 : Int), 65536], ¬(0 ≤ c ∧ c ≤ 65535) ∧ c = (running 0x14 (ops 0 (BitVec.ofInt 32 c) 0 0)).inputs.opa.toInt) ∧
    (∀ c ∈ [(-32768 : Int), 32767], -32768 ≤ c ∧ c ≤ 32767 ∧
      c = (running 0x14 (ops 2 (BitVec.ofInt 32 c) 0 0)).inputs.opa.toInt) ∧
    (∀ c ∈ [(-32769 : Int), 32768], ¬(-32768 ≤ c ∧ c ≤ 32767) ∧
      c = (running 0x14 (ops 2 (BitVec.ofInt 32 c) 0 0)).inputs.opa.toInt) ∧
    cfgSigned (ops 0 0 0 0).cfg = false ∧ cfgSigned (ops 2 0 0 0).cfg = true := by decide +kernel

/-- n + PEN at 4 and 8, and at 3 and 9; one operand below 0 and one above 255. -/
theorem witness_quant7 : (∀ x ∈ [(4, 0, (0x004 : Word)), (3, 1, 0x103), (8, 0, 0x008), (7, 1, 0x307)],
      x.1 = (running 0x15 (ops 0 0 x.2.2 0)).inputs.opb.toNat % 16 ∧
      x.2.1 = (running 0x15 (ops 0 0 x.2.2 0)).inputs.opb.toNat / 256 % 2 ∧ 4 ≤ x.1 + x.2.1 ∧ x.1 + x.2.1 ≤ 8) ∧
    (∀ x ∈ [(3, 0, (0x003 : Word)), (2, 1, 0x102), (9, 0, 0x009), (8, 1, 0x308)],
      x.1 = (running 0x15 (ops 0 0 x.2.2 0)).inputs.opb.toNat % 16 ∧
      x.2.1 = (running 0x15 (ops 0 0 x.2.2 0)).inputs.opb.toNat / 256 % 2 ∧ ¬(4 ≤ x.1 + x.2.1 ∧ x.1 + x.2.1 ≤ 8)) ∧
    (ops 0 0xFFFFFFFF 4 0).opa.toInt < 0 ∧ 255 < (ops 0 256 4 0).opa.toInt := by decide +kernel

/-- EXPAND7 with width n and operand x. -/
def expanding (n x : Nat) : RwRegs := (running 0x16 (ops 0 (wordOf x) (wordOf n) 0)).inputs

theorem witness_expand7 : (∀ x ∈ [(4, 15), (8, 255)], x.1 = (expanding x.1 x.2).opb.toNat % 16 ∧
      x.2 = (expanding x.1 x.2).opa.toNat ∧ 4 ≤ x.1 ∧ x.1 ≤ 8 ∧ x.2 < 2 ^ x.1) ∧
    (∀ x ∈ [(4, 16), (8, 256)], x.1 = (expanding x.1 x.2).opb.toNat % 16 ∧ x.2 = (expanding x.1 x.2).opa.toNat ∧
      4 ≤ x.1 ∧ x.1 ≤ 8 ∧ 2 ^ x.1 ≤ x.2) ∧
    ∀ n ∈ [3, 9], n = (expanding n 0).opb.toNat % 16 ∧ ¬(4 ≤ n ∧ n ≤ 8) := by decide +kernel

/-- WEIGHT of index j at b bits. -/
def weighing (b j : Nat) : RwRegs := (running 0x17 (ops 0 (wordOf b) (wordOf j) 0)).inputs

theorem witness_weight : (∀ x ∈ [(2, 3), (3, 7), (4, 15)], x.1 = (weighing x.1 x.2).opa.toNat % 8 ∧
      x.2 = (weighing x.1 x.2).opb.toNat ∧ x.1 ∈ [2, 3, 4] ∧ x.2 < 2 ^ x.1) ∧
    (∀ x ∈ [(2, 4), (3, 8), (4, 16)], x.1 = (weighing x.1 x.2).opa.toNat % 8 ∧ x.2 = (weighing x.1 x.2).opb.toNat ∧
      x.1 ∈ [2, 3, 4] ∧ 2 ^ x.1 ≤ x.2) ∧
    ∀ b ∈ [1, 5], b = (weighing b 0).opa.toNat % 8 ∧ b ∉ [2, 3, 4] := by decide +kernel

theorem witness_lerp : ((ops 0 65535 0xFFFF0001 0xF04).opc.toNat % 8 ∈ [2, 3, 4] ∧
      (ops 0 65535 0xFFFF0001 0xF04).opc.toNat / 256 % 16 < 2 ^ 4 ∧ (ops 0 65535 0xFFFF0001 0xF04).opa.toInt.natAbs ≤ 65535 ∧
      (ops 0 65535 0xFFFF0001 0xF04).opb.toInt.natAbs ≤ 65535) ∧
    ((ops 0 0 0 0x402).opc.toNat % 8 = 2 ∧ 2 ^ 2 ≤ (ops 0 0 0 0x402).opc.toNat / 256 % 16) ∧
    65535 < (ops 0 65536 0 2).opa.toInt.natAbs ∧ 65535 < (ops 0 0 0xFFFF0000 2).opb.toInt.natAbs ∧
    (ops 0 0 0 1).opc.toNat % 8 ∉ [2, 3, 4] := by decide +kernel

/-- SHAPE and ANCHOR: (ns, s) at the ends of the legal sets and just past them. -/
theorem witness_shape : (∀ x ∈ [(1, 0), (2, 0), (2, 63), (3, 63)], (x.1 = 1 ∧ x.2 = 0) ∨ (2 ≤ x.1 ∧ x.2 ≤ 63)) ∧
    (∀ x ∈ [(0, 0), (1, 1), (2, 64), (3, 64)], x.1 = 0 ∨ (x.1 = 1 ∧ x.2 ≠ 0) ∨ (2 ≤ x.1 ∧ 63 < x.2)) ∧
    ∀ x ∈ [(1, 0), (2, 0), (2, 63), (3, 63), (0, 0), (1, 1), (2, 64), (3, 64)],
      x.1 = (running 0x19 (ops 0 (wordOf x.1) (wordOf x.2) 0)).inputs.opa.toNat % 4 ∧
      x.2 = (running 0x19 (ops 0 (wordOf x.1) (wordOf x.2) 0)).inputs.opb.toNat := by decide +kernel

theorem witness_delta6 : (∀ d ∈ [1, 16], (ops 0 0 0 (BitVec.ofNat 32 d)).opc.toNat % 32 = d ∧ 1 ≤ d ∧ d ≤ 16) ∧
    ∀ d ∈ [0, 17, 31], (ops 0 0 0 (BitVec.ofNat 32 d)).opc.toNat % 32 = d ∧ ¬(1 ≤ d ∧ d ≤ 16) := by decide +kernel

/-- A 1x1 tile, unforced and with FORCE naming BC7 mode 6. -/
theorem witness_encode : ∀ n ∈ [0, 13],
    cfgAlpha (onePixel 0 (wordOf n)).cfg ≠ 3 ∧ (1 ≤ tileW (onePixel 0 (wordOf n)).tiledim ∧ tileW (onePixel 0 (wordOf n)).tiledim ≤ 4) ∧
    (1 ≤ tileH (onePixel 0 (wordOf n)).tiledim ∧ tileH (onePixel 0 (wordOf n)).tiledim ≤ 4) ∧
    (forceEn (onePixel 0 (wordOf n)).force = true →
      forceConfigLegal (onePixel 0 (wordOf n)) = true ∧ forceShapeLegal (onePixel 0 (wordOf n)) = true) ∧
    ∀ i : Fin 16, i.val % 4 < tileW (onePixel 0 (wordOf n)).tiledim → i.val / 4 < tileH (onePixel 0 (wordOf n)).tiledim →
      (onePixel 0 (wordOf n)).wrLo[i] = true ∧ (onePixel 0 (wordOf n)).wrHi[i] = true := by decide +kernel

theorem witness_legal_parameters : Config.hardware.Legal ∧ (running 0x01 (onePixel 0 0)).params = Config.hardware :=
  ⟨⟨by decide, by decide, by decide, by decide, by decide⟩, rfl⟩

/-- A fitter that is not the reference fit and answers vectors of the channels asked for. -/
theorem witness_total_fitter : TotalFitter (fit 8) ∧ TotalFitter (fun n _ _ => (List.replicate n 0, List.replicate n 1)) :=
  ⟨fit_total 8, fun _ _ _ => by simp⟩

theorem witness_encode_ready : encodeReady (running 0x01 (onePixel 0 0)).inputs ∧
    forceEn (running 0x01 (onePixel 0 0)).inputs.force = false := ⟨⟨rfl, by decide +kernel⟩, by decide +kernel⟩

/-- The four clauses of the check order: ALPHA 3, MODE 8, H 0, and SHAPE 16 of mode 0. -/
theorem witness_encode_errors : cfgAlpha (onePixel 0x0C 0).cfg = 3 ∧
    (cfgAlpha (onePixel 0 0x11).cfg ≠ 3 ∧ forceEn (onePixel 0 0x11).force = true ∧
      cfgFormat (onePixel 0 0x11).cfg = .bc7 ∧ 7 < forceMode (onePixel 0 0x11).force) ∧
    (forceEn (onePixel 0 0).force = false ∧ tileH { onePixel 0 0 with tiledim := 0x01 }.tiledim = 0 ∧
      tileW { onePixel 0 0 with tiledim := 0x15 }.tiledim = 5) ∧
    (forceEn (onePixel 0 0x201).force = true ∧ forceMode (onePixel 0 0x201).force = 0 ∧
      15 < forceShape (onePixel 0 0x201).force ∧ forceRot (onePixel 0 0x201).force = 0 ∧
      forceIsb (onePixel 0 0x201).force = 0 ∧ tileDimLegal (onePixel 0 0x201).tiledim = true) := by decide +kernel

theorem witness_unwritten_slot : faultOf (exec .encode (running 0x01 (ops 0 0 0 0))) = some .unwrittenPixel := by
  decide +kernel

/-- The tile of program P7, BC6H mode 14 forced. -/
def invalidForced : RwRegs := tile 0x00000001 0x0000001D (fun i => decide (i < 8)) (0, 0) (0x3C003C00, 0x00003C00)

theorem witness_invalid_forced : encodeReady (running 0x01 invalidForced).inputs ∧
    forceEn (running 0x01 invalidForced).inputs.force = true ∧
    cfgFormat (running 0x01 invalidForced).inputs.cfg = .bc6h :=
  ⟨⟨rfl, by decide +kernel⟩, by decide +kernel, by decide +kernel⟩

theorem witness_invalid_forced_candidate : evalBc6h (fit 8) (prepareTile 5 invalidForced) (cfgSigned invalidForced.cfg)
    (forcedPosition invalidForced.force) = none := by decide +kernel

theorem witness_selection : (CandRegs.start Config.hardware .bc7).best = none ∧ (CandRegs.start Config.hardware .bc7).bestErr = none ∧
    (evalPositions (fit 8) (onePixel 0 0) (prepareTile 5 (onePixel 0 0)) [⟨6, 0, 0, 0⟩] (CandRegs.start Config.hardware .bc7)).best.isSome = true ∧
    (evalPositions (fit 8) (onePixel 0 0) (prepareTile 5 (onePixel 0 0)) [⟨6, 0, 0, 0⟩] (CandRegs.start Config.hardware .bc7)).bestErr.isSome = true := by
  decide +kernel

/-- An unforced search with EXHAUSTIVE off, and with it on. -/
theorem witness_search : (forceEn (onePixel 0 0).force = false ∧ cfgFormat (onePixel 0 0).cfg = .bc7) ∧
    (forceEn (onePixel 1 0).force = false ∧ cfgFormat (onePixel 1 0).cfg = .bc6h) ∧
    cfgExhaustive ((onePixel 0x10 0).cfg &&& 0xFFFFFFEF) = false ∧ cfgExhaustive ((onePixel 0 0).cfg ||| 0x10) = true := by
  decide +kernel

/-- R185: under IMPMAP a pixel with a twin beside it has five times its weight, a pixel without one its weight. -/
theorem witness_importance : effectiveWeight 5 { edge3 0 with cfg := 0x20 } 0 = 5 ∧
    effectiveWeight 5 (onePixel 0x20 0) 0 = 1 ∧ cfgFormat (onePixel 0x20 0).cfg = .bc7 := by decide +kernel

/-- R183, R184: alpha None gives 255, Transparency weighs by the square of alpha. -/
theorem test_alpha_modes : tileVector { edge3 0 with pixHi := Vector.replicate 16 0x00070000 } 0 = [10, 20, 0, 255] ∧
    channelWeights { edge3 0 with cfg := 0x04, pixHi := Vector.replicate 16 0x00070000 } 0 = [49, 49, 49, 65025] := by
  decide +kernel

theorem witness_unforced_valid : cfgFormat (onePixel 0 0).cfg = .bc7 ∧ (⟨10, 31, 0, 0⟩ : Position).mode = 10 ∧
    (⟨11, 0, 0, 0⟩ : Position).mode = 11 := by decide +kernel

/-- One constant BC6H pixel. -/
theorem witness_constant_tile : encodeReady (running 0x01 (onePixel 1 0)).inputs ∧
    cfgFormat (running 0x01 (onePixel 1 0)).inputs.cfg = .bc6h ∧
    forceEn (running 0x01 (onePixel 1 0)).inputs.force = false ∧
    ∀ i, i < 16 → slotValid (onePixel 1 0).tiledim i = true → workingVector (onePixel 1 0) i = [128, 128, 128] :=
  ⟨⟨rfl, by decide +kernel⟩, by decide +kernel, by decide +kernel, by decide +kernel⟩

theorem witness_candidate_bc7 : cfgFormat (onePixel 0 0).cfg = .bc7 ∧ 6 < 8 ∧ (⟨6, 0, 0, 0⟩ : Position) ∈ positions7 6 ∧
    (evalAt (fit 8) (onePixel 0 0) (prepareTile 5 (onePixel 0 0)) ⟨6, 0, 0, 0⟩).isSome = true := by decide +kernel

theorem witness_candidate_bc6h : cfgFormat (onePixel 1 0).cfg = .bc6h ∧ (⟨1, 31, 0, 0⟩ : Position) ∈ positions6 1 ∧
    (evalAt (fit 8) (onePixel 1 0) (prepareTile 5 (onePixel 1 0)) ⟨1, 31, 0, 0⟩).isSome = true := by decide +kernel

/-- V-IDX-2: a tie goes to the lower index. -/
theorem witness_comparator : (0 < 4 ∧ 4 ≤ [[(0 : Int)], [84], [171], [255]].length) ∧
    nearestEntry [1] [42] [[0], [84], [171], [255]] 4 = (0, 1764) := by decide +kernel

theorem witness_fit : [(9 : Int), 9, 9, 255].length = 4 ∧ 0 < 16 ∧ (List.replicate 16 0).length = 16 ∧
    ([3, -2] : List Int) ≠ [] ∧ [1, 5].length = ([3, -2] : List Int).length ∧ (∀ w ∈ [1, 5], 0 < w) ∧ [0, 0].sum = 0 := by
  decide +kernel

/-- V-FIT-1 and V-FIT-3. -/
theorem test_fit_two_points : fit 8 3 [[0, 0, 0], [255, 255, 255]] [1, 1] = ([0, 0, 0], [255, 255, 255]) ∧
    fit 8 1 [[0], [0], [255], [255]] [1, 1, 1, 1] = ([0], [255]) := by decide +kernel

theorem witness_partitions : ∀ x ∈ [(1, 0), (2, 63), (3, 63)], (x.1 = 1 ∧ x.2 = 0) ∨ ((x.1 = 2 ∨ x.1 = 3) ∧ x.2 < 64) := by
  decide +kernel

theorem witness_layouts : (7 < 8 ∧ 63 < bc7Shapes 7) ∧ (1 ≤ 10 ∧ 10 ≤ 14 ∧ 31 < bc6hShapes 10) := by decide +kernel

theorem witness_well_formed_blocks : zero7.wf 0 = true ∧ zero74.wf 4 = true ∧ (Instr.bc6hMode1 zero6).wf = true ∧
    (Instr.lerp).wf = true := by decide +kernel

/-- A window at 0x4000. -/
def atBase : State := { State.reset with params := { Config.hardware with coreBase := 0x4000 } }

/-- An idle machine at 0x4000 with things for the host to do. -/
def asking (es : List HostEvent) : State := { atBase with host := es }

/-- A NOP that waits two steps before its completion step. -/
def waiting (es : List HostEvent) : State := { atBase.acceptWith 0x00 2 with host := es }

/-- CMD and STATUS after a step, and whether CORE is idle then. -/
def afterStep : Outcome → Option (Word × Word × Bool)
  | .next s => some (s.cmd, s.status, s.seq == .idle)
  | .fault _ => none
  | .refused _ => none

theorem waiting_seq (es : List HostEvent) : (waiting es).seq =
    .busy { pending := 0x00, latched := RwRegs.reset, cand := none, left := 2 } := rfl

/-- A hardware reset overtakes a stuck host, on an idle machine and behind a completion step. -/
theorem witness_hard_reset : { asking [.read 0x4001 4] with resetIn := [true] }.resetIn = true :: [] ∧
    afterStep (step { asking [.read 0x4001 4] with resetIn := [true] }) = some (0, 0, true) ∧
    afterStep (step { running 0x00 (ops 1 2 3 4) with resetIn := [true, false] }) = some (0, 0, true) := by
  decide +kernel

/-- A running NOP satisfies the invariant, and so steps from one state of it to another. -/
theorem witness_invariant : (waiting []).Inv ∧ ∃ t, step (waiting []) = .next t := by
  refine ⟨⟨⟨by decide, by decide, by decide, by decide, by decide⟩, ⟨by decide, by decide, by decide, by decide⟩, by decide, by decide,
    by decide, by decide, ?_, ?_, ?_, by decide⟩, _, rfl⟩
  · exact fun h => nomatch h
  · exact fun _ _ => by decide
  · intro r h
    rw [waiting_seq] at h
    cases h
    exact ⟨rfl, rfl, by decide⟩

theorem witness_step_command : (∃ r, (running 0x10 (ops 0 1 0 0)).seq = .busy r ∧ r.left = 0 ∧
      decodeCmd r.pending = .h2w ∧ decode .cmd (toBytes 4 r.pending.toNat) = .ok (.h2w, [])) ∧
    (running 0x10 (ops 0 1 0 0)).resetAsserted = false := ⟨⟨_, rfl, rfl, by decide, by decide⟩, rfl⟩

theorem witness_step_block : (asking [.refDecode .bc7 1]).host = .refDecode .bc7 1 :: [] ∧
    (asking [.refDecode .bc7 1]).seq = .idle ∧ (waiting [.refDecode .bc6h 0]).host = .refDecode .bc6h 0 :: [] ∧
    (waiting [.refDecode .bc6h 0]).resetAsserted = false ∧
    ∃ r, (waiting [.refDecode .bc6h 0]).seq = .busy r ∧ r.left ≠ 0 := ⟨rfl, rfl, rfl, rfl, _, rfl, by decide⟩

theorem witness_accept : (asking [hostW 0x4000 .cmd 0x01]).seq = .idle ∧
    (asking [hostW 0x4000 .cmd 0x01]).resetAsserted = false ∧
    (asking [hostW 0x4000 .cmd 0x01]).host = .write ((asking []).params.coreBase + 0x000) 4 0x01 :: [] := ⟨rfl, rfl, rfl⟩

/-- An access reaches the window at its base: CFG of the window at 0x4000, and no register of it at 0x008. -/
theorem test_core_base : (match step (asking [.write 0x4008 4 0x3F]) with
      | .next t => t.rw.cfg
      | .fault _ => 0
      | .refused _ => 0) = 0x3F ∧ faultOf (step (asking [.write 0x008 4 0x3F])) = some .outsideWindow := by decide +kernel

theorem witness_write_while_busy : (∃ r, (waiting [.write 0x41FC 4 5]).seq = .busy r ∧ r.left ≠ 0) ∧ 0x1FC % 4 = 0 ∧
    0x1FC < 0x200 ∧ (waiting []).resetAsserted = false ∧
    (waiting [.write 0x41FC 4 5]).host = .write ((waiting []).params.coreBase + 0x1FC) 4 5 :: [] :=
  ⟨⟨_, rfl, by decide⟩, by decide, by decide, rfl, rfl⟩

theorem witness_read : (asking [hostR 0x4000 .tiledim]).host = .read ((asking []).params.coreBase + 0x00C) 4 :: [] ∧
    (asking [hostR 0x4000 .tiledim]).seq = .idle ∧ (asking []).resetAsserted = false ∧
    regAt 0x00C = some .tiledim ∧ (asking []).unwritten .tiledim = false ∧ regAt 0x01C = none ∧
    (∀ r, (waiting [hostR 0x4000 .tiledim]).seq = .busy r → r.left ≠ 0) := by
  refine ⟨rfl, rfl, rfl, by decide +kernel, by decide +kernel, by decide +kernel, fun r h => ?_⟩
  rw [waiting_seq] at h
  cases h
  decide

theorem witness_write_idle : (asking [hostW 0x4000 (.imp 0) 0x1FF]).seq = .idle ∧ (Reg.imp 0).storedBits = some 0xFF ∧
    (asking []).resetAsserted = false ∧ (Reg.cfg ≠ .imp 0 ∧ (asking []).unwritten .cfg = false) ∧
    (asking [hostW 0x4000 (.imp 0) 0x1FF]).host = .write ((asking []).params.coreBase + (Reg.imp 0).offset) 4 0x1FF :: [] :=
  ⟨rfl, rfl, rfl, by decide, rfl⟩

theorem witness_ignored_writes : regAt 0x01C = none ∧ (∃ g, regAt 0x02C = some g ∧ g ≠ .cmd ∧ g.storedBits = none) ∧
    (asking [.write 0x402C 4 9]).seq = .idle ∧
    (asking [.write 0x402C 4 9]).host = .write ((asking []).params.coreBase + 0x02C) 4 9 :: [] :=
  ⟨by decide +kernel, ⟨.res, by decide +kernel, by decide, rfl⟩, rfl, rfl⟩

/-- The last word of the window, an access across no word of it, and the addresses on both sides of it. -/
theorem witness_stuck_access : (0x4000 ≤ 0x41FF ∧ 0x41FF < 0x4000 + 0x200 ∧ (4 ≠ 4 ∨ (0x41FF - 0x4000) % 4 ≠ 0)) ∧
    (0x4000 ≤ 0x41FC ∧ 0x41FC < 0x4000 + 0x200 ∧ (1 ≠ 4 ∨ (0x41FC - 0x4000) % 4 ≠ 0)) ∧
    (0x3FFC < 0x4000 ∨ 0x4000 + 0x200 ≤ 0x3FFC) ∧ (0x4200 < 0x4000 ∨ 0x4000 + 0x200 ≤ 0x4200) ∧
    (asking [.read 0x41FC 1]).host = .read 0x41FC 1 :: [] ∧ (asking [.read 0x41FC 1]).seq = .idle ∧
    true ∉ (asking []).resetIn ∧ true ∈ { asking [] with resetIn := [false, true] }.resetIn ∧
    { asking [] with resetIn := [false, true] }.resetAsserted = false ∧
    ∃ r, (waiting [.read 0x41FC 1]).seq = .busy r ∧ r.left ≠ 0 :=
  ⟨by decide, by decide, by decide, by decide, rfl, rfl, by decide, by decide, rfl, _, rfl, by decide⟩

theorem test_stuck_access : faultOf (step (asking [.read 0x41FC 1])) = some .stuckAccess ∧
    faultOf (step (asking [.write 0x4200 4 0])) = some .outsideWindow := by decide +kernel

/-- Two instances on one bus: the host's access goes to the one whose window holds the address. -/
theorem test_platform_routes :
    let p : Platform := { cores := [State.reset, atBase], host := [hostW 0x4000 .cfg 0x3F] }
    p.wf = true ∧ (match p.step .host with
      | .next q => (q.cores.map fun c => c.rw.cfg, q.host)
      | .fault _ => ([], [])
      | .refused _ => ([], [])) = ([0, 0x3F], []) := by decide +kernel

theorem witness_exec_next : (∃ t, exec .nop State.reset = .next t) ∧
    ∃ t, exec .getmode (modeQuery 0 0x40) = .next t ∧ t.res ≠ (modeQuery 0 0x40).res := ⟨⟨_, rfl⟩, _, rfl, by decide +kernel⟩

theorem witness_written_marks : (∃ t, step (asking [.write 0x4100 4 7]) = .next t) ∧
    (asking [.write 0x4100 4 7]).resetAsserted = false ∧
    (running 0x00 (onePixel 0 0)).rw.wrLo[(0 : Fin 16)] = true := ⟨⟨_, rfl⟩, rfl, by decide +kernel⟩

theorem witness_same_inputs : (Instr.getmode).encoding = .cmd ∧
    (modeQuery 0 0x40).params = { modeQuery 0 0x40 with res := 9 }.params ∧
    (modeQuery 0 0x40).inputs = { modeQuery 0 0x40 with res := 9 }.inputs ∧
    ∃ t, exec .getmode (modeQuery 0 0x40) = .next t := ⟨rfl, rfl, rfl, _, rfl⟩

theorem witness_same_inputs_fault : (Instr.encode).encoding = .cmd ∧
    faultOf (exec .encode (running 0x01 (ops 0 0 0 0))) = some .unwrittenPixel := ⟨rfl, by decide +kernel⟩

theorem witness_bounded : ∃ r, (waiting [hostPoll 0x4000, .read 0x4000 4]).seq = .busy r ∧
    true ∉ (waiting [hostPoll 0x4000, .read 0x4000 4]).resetIn :=
  ⟨_, rfl, by decide +kernel⟩

end Sys2Proof.Tests
end

