-- ==== Sys2Proof/Proofs/ExecEnds.lean ====
section
/-! SUPPORT. Everything `exec` can answer: one constructor per way an instruction ends. -/

namespace Sys2Proof.Machine

/-- The machine after SRESET (70_reset_and_hazards.md R452, log 11). -/
def State.softReset (s : State) : State :=
  { s with
    status := statusWord false true false 0 false false
    res := 0
    rinfo := 0
    rerrLo := 0
    rerrHi := 0
    out := Vector.replicate 4 0
    rw := s.rw.softReset
    seq := .idle }

theorem execSreset_eq (s : State) : execSreset s = .next s.softReset := rfl

/-- The machine after GETMODE met a reserved block (48_packer_bc7.md R371): the one error that writes RES. -/
def State.raiseReservedMode (s : State) : State := { s with res := 0xFFFFFFFF }.raise .rsvdMode

/-- `ExecEnds s i t`: from `s` the instruction `i` can end in `t` (60_exceptions.md R424, 47_mode_selector.md R333,
10_state.md R38). `exec_ends` ties it to `exec`. -/
inductive ExecEnds (s : State) : Instr → State → Prop
  /-- NOP completes. -/
  | completed : ExecEnds s .nop (s.complete false)
  /-- SRESET. -/
  | softReset : ExecEnds s .sreset s.softReset
  /-- A command enters an error. -/
  | raised {i : Instr} (e : ErrCode) (cmd : i.encoding = .cmd) : ExecEnds s i (s.raise e)
  /-- GETMODE of a reserved block. -/
  | reservedMode : ExecEnds s .getmode s.raiseReservedMode
  /-- GETMODE or a unit command writes its result. -/
  | result {i : Instr} (v : Word) (cmd : i.encoding = .cmd) (notNop : i ≠ .nop) (notEncode : i ≠ .encode) :
      ExecEnds s i (s.completeRes v)
  /-- ENCODE commits a block. -/
  | committed (blk : Block) (fmt : Format) (p : Position) (err : Nat) (fb : Bool) :
      ExecEnds s .encode (s.commit blk (rinfoWord fmt p fb) err fb)
  /-- The reference decoder answers a block row. -/
  | answered {i : Instr} (o : RefOut) (block : i.encoding ≠ .cmd) : ExecEnds s i (s.answer o)

theorem unitResult_ends {i : Instr} {s t : State} {x : Except ErrCode Word} (cmd : i.encoding = .cmd)
    (notNop : i ≠ .nop) (notEncode : i ≠ .encode) (h : unitResult s x = .next t) : ExecEnds s i t := by
  obtain ⟨e, -, rfl⟩ | ⟨v, -, rfl⟩ := unitResult_next h
  · exact .raised e cmd
  · exact .result v cmd notNop notEncode

theorem execGetmode_ends {s t : State} (h : execGetmode s = .next t) : ExecEnds s .getmode t := by
  unfold execGetmode at h
  split at h <;> cases h
  · exact .result _ rfl nofun nofun
  · exact .reservedMode

theorem commitSearch_ends (s : State) (fmt : Format) (c : CandRegs) :
    ExecEnds s .encode (s.commitSearch fmt c) := by
  obtain ⟨b, -, hb⟩ | ⟨-, hb⟩ := commitSearch_cases s fmt c
  · rw [hb]; exact .committed _ _ _ _ _
  · rw [hb]; exact .committed _ _ _ _ _

theorem execEncode_ends {s t : State} (h : execEncode s = .next t) : ExecEnds s .encode t := by
  obtain ⟨e, -, he⟩ | ⟨-, hc⟩ | ⟨-, -, hf⟩ := execEncode_cases s
  · cases he.symm.trans h; exact .raised e rfl
  · cases hc.symm.trans h; exact commitSearch_ends _ _ _
  · cases hf.symm.trans h

/-- Every next state `exec` answers is one of the ends. -/
theorem exec_ends {i : Instr} {s t : State} (h : exec i s = .next t) : ExecEnds s i t := by
  cases i with
  | nop => cases h; exact .completed
  | sreset => cases (execSreset_eq s).symm.trans h; exact .softReset
  | getmode => exact execGetmode_ends h
  | encode => exact execEncode_ends h
  | reservedCmd w => cases h; exact .raised .badCmd rfl
  | h2w => exact unitResult_ends (x := h2wResult s.inputs) rfl nofun nofun h
  | w2h => exact unitResult_ends (x := w2hResult s.inputs) rfl nofun nofun h
  | quant6 | unquant6 | finish6 | quant7 | expand7 | weight | lerp | shape | anchor | delta6 =>
    exact unitResult_ends rfl nofun nofun h
  | bc7Mode0 | bc7Mode1 | bc7Mode2 | bc7Mode3 | bc7Mode4 | bc7Mode5 | bc7Mode6 | bc7Mode7 | bc7Reserved
  | bc6hMode1 | bc6hMode2 | bc6hMode3 | bc6hMode4 | bc6hMode5 | bc6hMode6 | bc6hMode7 | bc6hMode8 | bc6hMode9
  | bc6hMode10 | bc6hMode11 | bc6hMode12 | bc6hMode13 | bc6hMode14
  | bc6hReserved13 | bc6hReserved17 | bc6hReserved1B | bc6hReserved1F =>
    cases h; exact .answered _ nofun

theorem statusErr_completed (old : Word) (fb : Bool) : statusErr (statusCompleted old fb) = false := by
  obtain ⟨-, -, herr, -⟩ := completedOk_statusCompleted old fb
  exact herr

/-- Settles O57: of the ends of an instruction only ENCODE's commit and SRESET write the block's registers, and RES is
written only by a result, by SRESET and by GETMODE of a reserved block. -/
theorem onlyEncodeWritesTheBlock : Obligations.OnlyEncodeWritesTheBlock := by
  intro i s t h
  cases exec_ends h with
  | completed => exact ⟨rfl, by simp, by simp⟩
  | softReset =>
    exact ⟨rfl, fun _ => .inr rfl, fun _ => ⟨rfl, nofun, nofun, .inr (statusErr_completed 0 false)⟩⟩
  | raised e cmd => exact ⟨rfl, by simp, by simp⟩
  | reservedMode =>
    exact ⟨rfl, by simp [State.raiseReservedMode], fun _ => ⟨rfl, nofun, nofun, .inl rfl⟩⟩
  | result v cmd notNop notEncode =>
    exact ⟨rfl, by simp, fun _ => ⟨cmd, notNop, notEncode, .inr (statusErr_completed _ _)⟩⟩
  | committed blk fmt p err fb => exact ⟨rfl, fun _ => .inl ⟨rfl, statusErr_completed _ _⟩, by simp⟩
  | answered o block => exact ⟨rfl, by simp, by simp⟩

end Sys2Proof.Machine
end

