-- ==== Sys2Proof/Proofs/Sequencer.lean ====
section
/-! SUPPORT. How a command starts and how it is executed: the accepting write and the completion step. -/

namespace Sys2Proof.Machine

/-- The value of the `n` bytes of a number is its low `8 n` bits (20_memory.md R82). -/
theorem ofBytes_toBytes (n v : Nat) : ofBytes (toBytes n v) = v % 2 ^ (8 * n) := by
  induction n generalizing v with
  | zero => simp [toBytes, ofBytes, Nat.mod_one]
  | succ n ih =>
    rw [toBytes, ofBytes, ih, BitVec.toNat_ofNat, Nat.mul_succ, Nat.add_comm (8 * n), pow_add, Nat.mod_mul]

/-- The four bytes of a command word decode to its instruction, with nothing left over. -/
theorem decode_cmd_toBytes (w : Word) : decode .cmd (toBytes 4 w.toNat) = .ok (decodeCmd w, []) := by
  have hlen : (toBytes 4 w.toNat).length = 4 := Laws.toBytes_length 4 w.toNat
  have hval : BitVec.ofNat 32 (ofBytes (toBytes 4 w.toNat)) = w := by
    rw [ofBytes_toBytes, Nat.mod_eq_of_lt w.isLt, BitVec.ofNat_toNat, BitVec.setWidth_eq]
  simp [decode, Encoding.size, hlen, List.take_of_length_le, List.drop_of_length_le, hval]

/-- Settles O49: the four bytes of the PENDING word decode as the word does, and the completion step executes that. -/
theorem stepRunsDecodedCommand : Obligations.StepRunsDecodedCommand := by
  intro s r i hbusy hleft hreset
  have hstep : step s = exec (decodeCmd r.pending) s.pastReset := step_completion hbusy hleft hreset
  refine ⟨fun hi => hi ▸ hstep, fun hi => ?_⟩
  cases (decode_cmd_toBytes r.pending).symm.trans hi
  exact hstep

/-- CORE performs every aligned 32-bit access of the window. -/
theorem accessStop_none {base addr : Nat} (hlo : base ≤ addr) (hhi : addr < base + 0x200)
    (halign : (addr - base) % 4 = 0) : accessStop base addr 4 = none := by
  obtain ⟨h, -⟩ | ⟨-, -, -, hbad⟩ | ⟨-, hout⟩ := accessStop_cases base addr 4
  · exact h
  · omega
  · omega

/-- A write at the offset of CMD starts a command on an idle machine. -/
theorem busWrite_cmd {s : State} (v : Word) (h : s.seq = .idle) : s.busWrite 0 v = s.accept v := by
  have hcmd : regAt 0 = some .cmd := by decide
  simp [State.busWrite, h, State.writeIdle, hcmd]

theorem statusAccepted_eq : statusAccepted = 1 := by decide

/-- The command that the acceptance of a word starts (10_state.md R45 to R47). -/
def State.newCommand (s : State) (w : Word) : Running where
  pending := w
  latched := s.rw
  cand := if w = 1 then some (CandRegs.start s.params (cfgFormat s.rw.cfg)) else none
  left := Config.latency s.params.coreBase s.draws

theorem State.accept_eq (s : State) (w : Word) : s.accept w =
    { s with cmd := w, status := 1, seq := .busy (s.newCommand w), draws := s.draws + 1 } := by
  rw [← statusAccepted_eq]; rfl

/-- Exactly an ENCODE has candidate registers. -/
theorem State.newCommand_cand_isSome (s : State) (w : Word) : (s.newCommand w).cand.isSome = true ↔ w = 1 := by
  by_cases hw : w = 1 <;> simp [State.newCommand, hw]

/-- The candidate registers start with no winner (47_mode_selector.md R322). -/
theorem State.newCommand_cand_empty {s : State} {w : Word} {c : CandRegs} (h : (s.newCommand w).cand = some c) :
    c.best = none ∧ c.bestErr = none := by
  simp only [State.newCommand, Option.ite_none_right_eq_some, Option.some.injEq] at h
  obtain ⟨-, rfl⟩ := h
  exact ⟨rfl, rfl⟩

/-- Settles O51: the write is inside the window, so the step is `State.accept` of the word. -/
theorem acceptedCommandIsLatched : Obligations.AcceptedCommandIsLatched := by
  intro s v es hidle hreset hhost
  have hstop : (HostEvent.write (s.params.coreBase + 0x000) 4 v).stop s.params.coreBase = none :=
    accessStop_none (by omega) (by omega) (by omega)
  have hstep : step s = .next (State.accept v { s.pastReset with host := es }) := by
    rw [step_idle_host hidle hhost hstop hreset]
    simp only [hostStep, State.perform, Nat.add_zero, State.pastReset_params, Nat.sub_self]
    exact congrArg _ (busWrite_cmd v hidle)
  exact ⟨_, s.newCommand v, hstep, State.accept_eq _ v, rfl, rfl, s.newCommand_cand_isSome v,
    fun _ => State.newCommand_cand_empty⟩

end Sys2Proof.Machine
end

