-- ==== Sys2Proof/Proofs/Invariant.lean ====
section
/-! SUPPORT. The machine invariant step by step: STATUS, the result registers and the writable registers each keep
their part of it, and what changes only fields of the model's own keeps all of it. -/

namespace Sys2Proof.Machine

/-! ### STATUS -/

/-- The part of the invariant that speaks of STATUS alone (10_state.md R31, R50, 60_exceptions.md R420). -/
structure StatusSound (st : Word) : Prop where
  reserved : st &&& statusMask = st
  errCode : statusErr st = true ↔ statusErrCode st ≠ 0
  codeKnown : statusErrCode st ≤ 7

theorem statusSound_word (busy done err wign fb : Bool) (code : Fin 16) (hcode : err = true ↔ (code : Nat) ≠ 0)
    (hle : (code : Nat) ≤ 7) : StatusSound (statusWord busy done err code wign fb) := by
  obtain ⟨-, -, herr, hec, -, -⟩ := statusWord_fields busy done err wign fb code
  exact ⟨statusWord_reserved busy done err wign fb code, by rw [herr, hec, hcode], by rw [hec]; exact hle⟩

theorem statusSound_zero : StatusSound 0 := ⟨by decide, by decide, by decide⟩

theorem statusBusy_zero : statusBusy 0 = false := by decide

theorem statusSound_accepted : StatusSound statusAccepted :=
  statusSound_word true false false false false 0 (by decide) (by decide)

theorem statusSound_completed (old : Word) (fb : Bool) : StatusSound (statusCompleted old fb) :=
  statusSound_word false true false (statusWign old) fb 0 (by decide) (by decide)

theorem ErrCode.code_pos_le (e : ErrCode) : e.code ≠ 0 ∧ e.code ≤ 7 := by cases e <;> decide

theorem statusSound_error (old : Word) (e : ErrCode) : StatusSound (statusError old e) :=
  statusSound_word false true true (statusWign old) false ⟨e.code, e.code_lt⟩
    (by simp [e.code_pos_le.1]) e.code_pos_le.2

theorem statusSound_ignoredWrite {st : Word} (h : StatusSound st) : StatusSound (statusIgnoredWrite st) where
  reserved := by
    have hbit : wordOf (2 ^ 8) &&& statusMask = wordOf (2 ^ 8) := by decide
    have hdist : (st ||| wordOf (2 ^ 8)) &&& statusMask = st &&& statusMask ||| wordOf (2 ^ 8) &&& statusMask := by
      ext i; simp [Bool.and_or_distrib_right]
    rw [statusIgnoredWrite, hdist, h.reserved, hbit]
  errCode := by simpa using h.errCode
  codeKnown := by simpa using h.codeKnown

/-! ### RINFO, RERR and OUT -/

/-- The part of the invariant that speaks of the registers ENCODE writes (10_state.md R39, R40, R41, R50). -/
structure State.ResultSound (s : State) : Prop where
  reserved : s.rinfo &&& rinfoMask = s.rinfo
  noBlockYet : fieldOf s.rinfo 0 1 = 0 →
    s.rinfo = 0 ∧ s.rerrLo = 0 ∧ s.rerrHi = 0 ∧ s.out = Vector.replicate 4 0

theorem State.Inv.resultSound {s : State} (h : s.Inv) : s.ResultSound := ⟨h.rinfoReserved, h.noBlockYet⟩

theorem State.resultSound_zero {s : State} (hinfo : s.rinfo = 0) (hlo : s.rerrLo = 0) (hhi : s.rerrHi = 0)
    (hout : s.out = Vector.replicate 4 0) : s.ResultSound :=
  ⟨by rw [hinfo]; rfl, fun _ => ⟨hinfo, hlo, hhi, hout⟩⟩

/-- The fields of RINFO end below bit 16. -/
theorem rinfoWord_reserved (fmt : Format) (p : Position) (fb : Bool) :
    rinfoWord fmt p fb &&& rinfoMask = rinfoWord fmt p fb := by
  have hlt := packFields_lt
    [(1, 1), (4, p.mode), (6, p.shape), (2, p.rot), (1, p.isb), (1, fb.toNat), (1, formatBit fmt)]
  change _ < 2 ^ 16 at hlt
  apply BitVec.eq_of_toNat_eq
  rw [BitVec.toNat_and, rinfoWord, wordOf, BitVec.toNat_ofNat, Nat.mod_eq_of_lt (by omega)]
  exact (Nat.and_two_pow_sub_one_eq_mod _ 16).trans (Nat.mod_eq_of_lt hlt)

/-- A committed RINFO has VALID set. -/
theorem rinfoWord_valid (fmt : Format) (p : Position) (fb : Bool) : fieldOf (rinfoWord fmt p fb) 0 1 = 1 := by
  simp only [fieldOf, bitsOf, rinfoWord, wordOf, BitVec.toNat_ofNat, packFields]
  omega

theorem State.resultSound_commit (s : State) (blk : Block) (fmt : Format) (p : Position) (err : Nat) (fb : Bool) :
    (s.commit blk (rinfoWord fmt p fb) err fb).ResultSound where
  reserved := rinfoWord_reserved fmt p fb
  noBlockYet hno := by
    rw [State.commit_rinfo, rinfoWord_valid] at hno
    exact absurd hno one_ne_zero

/-! ### The writable registers -/

theorem RwRegs.clean_reset : RwRegs.reset.Clean := ⟨by decide, by decide, by decide, by decide⟩

theorem RwRegs.clean_softReset (r : RwRegs) : r.softReset.Clean := 
  ⟨RwRegs.clean_reset.cfg, RwRegs.clean_reset.tiledim, RwRegs.clean_reset.force, RwRegs.clean_reset.imp⟩

/-- A write stores only the writable bits of a register (10_state.md R50). -/
theorem RwRegs.clean_write {r : RwRegs} (h : r.Clean) (v : Word) (g : Reg) : (r.write v g).Clean := by
  have masked (m : Word) : v &&& m &&& m = v &&& m := by rw [BitVec.and_assoc, BitVec.and_self]
  obtain ⟨hcfg, htiledim, hforce, himp⟩ := h
  cases g with
  | cfg => exact ⟨masked _, htiledim, hforce, himp⟩
  | tiledim => exact ⟨hcfg, masked _, hforce, himp⟩
  | force => exact ⟨hcfg, htiledim, masked _, himp⟩
  | imp k =>
    refine ⟨hcfg, htiledim, hforce, fun i => ?_⟩
    by_cases hk : k = i
    · subst hk; simpa [RwRegs.write] using masked impMask
    · have hne : (k : Nat) ≠ i := fun he => hk (Fin.ext he)
      simpa [RwRegs.write, Vector.getElem_set, hne] using himp i
  | threshLo | threshHi | opa | opb | opc | bin | pixLo | pixHi | cmd | status | res | rinfo | rerrLo | rerrHi | out =>
    exact ⟨hcfg, htiledim, hforce, himp⟩

/-! ### The fields of the model's own -/

/-- The sequencer without the model's count of steps (log 4). -/
def Seq.untimed : Seq → Seq
  | .idle => .idle
  | .busy r => .busy { r with left := 0 }

/-- CORE's own registers and sequencer: a state with the fields of the model's own but its parameters erased. -/
def State.hardware (s : State) : State :=
  { s with seq := s.seq.untimed, host := [], resetIn := [], reads := [], refOut := .none, draws := 0 }

theorem Seq.untimed_busy {q : Seq} {r : Running} (h : q.untimed = .busy r) :
    ∃ r', q = .busy r' ∧ r = { r' with left := 0 } := by
  cases q with
  | idle => cases h
  | busy r' => cases h; exact ⟨r', rfl, rfl⟩

theorem Seq.untimed_idle {q : Seq} (h : q.untimed = .idle) : q = .idle := by
  cases q with
  | idle => rfl
  | busy r => cases h

/-- The invariant speaks of CORE's own state only. -/
theorem State.inv_hardware_iff (s : State) : s.hardware.Inv ↔ s.Inv := by
  constructor
  · intro h
    exact { h with
      idleNotBusy := fun hi => h.idleNotBusy (congrArg Seq.untimed hi)
      busyStatus := fun r hr => h.busyStatus { r with left := 0 } (congrArg Seq.untimed hr)
      latched := fun r hr => h.latched { r with left := 0 } (congrArg Seq.untimed hr) }
  · intro h
    exact { h with
      idleNotBusy := fun hi => h.idleNotBusy (Seq.untimed_idle hi)
      busyStatus := fun r hr => by
        obtain ⟨r', hr', rfl⟩ := Seq.untimed_busy hr
        exact h.busyStatus r' hr'
      latched := fun r hr => by
        obtain ⟨r', hr', rfl⟩ := Seq.untimed_busy hr
        exact h.latched r' hr' }

theorem State.hardware_tick (s : State) : s.tick.hardware = s.hardware := by
  cases hs : s.seq with
  | idle => rw [s.tick_idle hs]
  | busy r => simp [State.hardware, State.tick, hs, Seq.untimed]

theorem State.hardware_pastReset (s : State) : s.pastReset.hardware = s.hardware := rfl

theorem State.hardware_pollOnce (s : State) (addr : Nat) : (s.pollOnce addr).hardware = s.hardware := by
  unfold State.pollOnce
  dsimp only
  split <;> rfl

/-! ### What a step can do -/

/-- `t` is a state the step lemma allows after `s`. -/
def State.Keeps (s t : State) : Prop := t.Inv ∧ t.params = s.params

theorem State.Inv.keeps_hardware {s t : State} (h : s.Inv) (ht : t.hardware = s.hardware) : s.Keeps t :=
  have hparams : t.hardware.params = s.hardware.params := congrArg State.params ht
  ⟨t.inv_hardware_iff.mp (ht ▸ s.inv_hardware_iff.mpr h), hparams⟩

/-- An idle machine has the invariant if STATUS, the result registers and the writable registers have their parts. -/
theorem State.inv_of_idle {t : State} (hparams : t.params.Legal) (hclean : t.rw.Clean) (hstatus : StatusSound t.status)
    (hresult : t.ResultSound) (hidle : t.seq = .idle) (hbusy : statusBusy t.status = false) : t.Inv where
  params := hparams
  clean := hclean
  statusReserved := hstatus.reserved
  errCode := hstatus.errCode
  codeKnown := hstatus.codeKnown
  rinfoReserved := hresult.reserved
  idleNotBusy _ := hbusy
  busyStatus r hr := by rw [hidle] at hr; cases hr
  latched r hr := by rw [hidle] at hr; cases hr
  noBlockYet := hresult.noBlockYet

theorem State.Inv.statusSound {s : State} (h : s.Inv) : StatusSound s.status :=
  ⟨h.statusReserved, h.errCode, h.codeKnown⟩

theorem State.Inv.keeps_hardReset {s : State} (h : s.Inv) : s.Keeps s.hardReset :=
  ⟨State.inv_of_idle h.params RwRegs.clean_reset statusSound_zero
    (State.resultSound_zero rfl rfl rfl rfl) rfl statusBusy_zero, rfl⟩

theorem State.inv_softReset {s : State} (hparams : s.params.Legal) : s.softReset.Inv :=
  State.inv_of_idle hparams s.rw.clean_softReset (statusSound_completed 0 false)
    (State.resultSound_zero rfl rfl rfl rfl) rfl (completedOk_statusCompleted 0 false).1

/-- A completion without error, whatever the instruction wrote to its result registers before. -/
theorem State.inv_complete {s : State} (fb : Bool) (hparams : s.params.Legal) (hclean : s.rw.Clean)
    (hresult : s.ResultSound) : (s.complete fb).Inv :=
  State.inv_of_idle hparams hclean (statusSound_completed s.status fb) ⟨hresult.reserved, hresult.noBlockYet⟩ rfl
    (completedOk_statusCompleted s.status fb).1

/-- Error entry keeps the result registers (60_exceptions.md R424). -/
theorem State.inv_raise {s : State} (e : ErrCode) (hparams : s.params.Legal) (hclean : s.rw.Clean)
    (hresult : s.ResultSound) : (s.raise e).Inv :=
  State.inv_of_idle hparams hclean (statusSound_error s.status e) ⟨hresult.reserved, hresult.noBlockYet⟩ rfl
    (completedErr_statusError s.status e).1

theorem State.inv_commit {s : State} (blk : Block) (fmt : Format) (p : Position) (err : Nat) (fb : Bool)
    (hparams : s.params.Legal) (hclean : s.rw.Clean) : (s.commit blk (rinfoWord fmt p fb) err fb).Inv :=
  have hresult := s.resultSound_commit blk fmt p err fb
  State.inv_complete fb hparams hclean ⟨hresult.reserved, hresult.noBlockYet⟩

/-- Every end of an instruction keeps the invariant. -/
theorem State.Inv.keeps_ends {i : Instr} {s t : State} (h : s.Inv) (he : ExecEnds s i t) : s.Keeps t := by
  cases he with
  | completed => exact ⟨State.inv_complete false h.params h.clean h.resultSound, rfl⟩
  | softReset => exact ⟨State.inv_softReset h.params, rfl⟩
  | raised e => exact ⟨State.inv_raise e h.params h.clean h.resultSound, rfl⟩
  | reservedMode =>
    exact ⟨State.inv_raise .rsvdMode h.params h.clean ⟨h.rinfoReserved, h.noBlockYet⟩, rfl⟩
  | result v =>
    exact ⟨State.inv_complete (s := { s with res := v }) false h.params h.clean ⟨h.rinfoReserved, h.noBlockYet⟩, rfl⟩
  | committed blk fmt p err fb => exact ⟨State.inv_commit blk fmt p err fb h.params h.clean, rfl⟩
  | answered o => exact h.keeps_hardware rfl

theorem State.Inv.keeps_exec {i : Instr} {s t : State} (h : s.Inv) (he : exec i s = .next t) : s.Keeps t :=
  h.keeps_ends (exec_ends he)

/-- Acceptance latches the registers as they stand, so the copy equals them (10_state.md R46). -/
theorem State.Inv.keeps_accept {s : State} (h : s.Inv) (w : Word) : s.Keeps (s.accept w) := by
  obtain ⟨hbusy, hdone, herr, hcode, -, hfb⟩ := statusWord_fields true false false false false 0
  refine ⟨?_, rfl⟩
  exact { h with
    statusReserved := statusSound_accepted.reserved
    errCode := statusSound_accepted.errCode
    codeKnown := statusSound_accepted.codeKnown
    idleNotBusy := nofun
    busyStatus := fun _ _ => ⟨hbusy, hdone, herr, hcode, hfb⟩
    latched := fun r hr => by
      cases hr
      exact ⟨rfl, rfl, s.newCommand_cand_isSome w⟩ }

/-- An ignored write changes only STATUS.WIGN, of which the invariant says nothing (70_reset_and_hazards.md R460). -/
theorem State.Inv.keeps_writeBusy {s : State} (h : s.Inv) : s.Keeps s.writeBusy := by
  have hst := statusSound_ignoredWrite h.statusSound
  refine ⟨?_, rfl⟩
  exact { h with
    statusReserved := hst.reserved
    errCode := hst.errCode
    codeKnown := hst.codeKnown
    idleNotBusy := by simpa using h.idleNotBusy
    busyStatus := by simpa using h.busyStatus }

theorem State.Inv.keeps_storeIdle {s : State} (h : s.Inv) (hidle : s.seq = .idle) (v : Word) (g : Reg) :
    s.Keeps { s with rw := s.rw.write v g } :=
  ⟨State.inv_of_idle h.params (RwRegs.clean_write h.clean v g) h.statusSound ⟨h.rinfoReserved, h.noBlockYet⟩ hidle
    (h.idleNotBusy hidle), rfl⟩

theorem State.Inv.keeps_busWrite {s : State} (h : s.Inv) (off : Nat) (v : Word) : s.Keeps (s.busWrite off v) := by
  obtain ⟨r, -, hw⟩ | ⟨-, -, hw⟩ | ⟨hidle, g, -, -, hw⟩ | ⟨-, -, hw⟩ := busWrite_cases s off v <;> rw [hw]
  · exact h.keeps_writeBusy
  · exact h.keeps_accept v
  · exact h.keeps_storeIdle hidle v g
  · exact h.keeps_hardware rfl

/-- What the host does keeps the invariant. -/
theorem State.Inv.keeps_hostStep {s t : State} (h : s.Inv) {e : HostEvent} (ht : hostStep e s = .next t) :
    s.Keeps t := by
  cases e with
  | write addr bytes v => cases ht; exact h.keeps_busWrite _ v
  | read addr bytes => cases ht; exact h.keeps_hardware rfl
  | poll addr => cases ht; exact h.keeps_hardware (s.hardware_pollOnce addr)
  | refDecode fmt blk => exact h.keeps_exec ht

/-- What the host does after only fields of the model's own changed. -/
theorem State.Inv.keeps_hostStep_of_hardware {s s' t : State} (h : s.Inv) {e : HostEvent}
    (ht : hostStep e s' = .next t) (hs : s'.hardware = s.hardware) : s.Keeps t := by
  obtain ⟨hinv, hparams⟩ := h.keeps_hardware hs
  obtain ⟨tinv, tparams⟩ := hinv.keeps_hostStep ht
  exact ⟨tinv, tparams.trans hparams⟩

theorem State.Inv.keeps_busyStep {s t : State} (h : s.Inv) (r : Running) (ht : busyStep r s = .next t) :
    s.Keeps t := by
  obtain ⟨-, hb⟩ | ⟨-, hb⟩ | ⟨e, es, -, -, -, hb⟩ := busyStep_cases r s <;> rw [hb] at ht
  · exact h.keeps_exec ht
  · cases ht; exact h.keeps_hardware s.hardware_tick
  · exact h.keeps_hostStep_of_hardware ht s.hardware_tick

theorem State.Inv.keeps_idleStep {s t : State} (h : s.Inv) (ht : idleStep s = .next t) : s.Keeps t := by
  obtain ⟨-, hi⟩ | ⟨_, _, _, -, -, -, hi⟩ | ⟨_, _, _, -, -, -, hi⟩ | ⟨e, es, -, -, hi⟩ := idleStep_cases s <;>
    rw [hi] at ht
  · cases ht; exact h.keeps_hardware rfl
  · cases ht; exact h.keeps_hardware rfl
  · cases ht
  · exact h.keeps_hostStep_of_hardware ht rfl

/-- Settles O48: the hardware reset, a step of a busy machine and a step of an idle one each keep the invariant. The
level of the reset input that passes first is not CORE's. -/
theorem stepKeepsInvariant : Obligations.StepKeepsInvariant := by
  intro s t h ht
  have hpast : s.pastReset.Inv := (h.keeps_hardware s.hardware_pastReset).1
  obtain ⟨-, hs⟩ | ⟨r, -, -, hs⟩ | ⟨-, -, hs⟩ := step_cases s <;> rw [hs] at ht
  · cases ht; exact hpast.keeps_hardReset
  · exact hpast.keeps_busyStep r ht
  · exact hpast.keeps_idleStep ht

end Sys2Proof.Machine
end

