-- ==== Sys2Proof/Proofs/RegisterMap.lean ====
section
/-! SUPPORT. The register map as a bijection of registers and mapped offsets, and what a store in a register does to
the values the bus reads. -/

namespace Sys2Proof.Machine

/-! ### The map (20_memory.md R81) -/

theorem regAt_offset (g : Reg) : regAt g.offset = some g := by
  cases g with
  | out k | bin k => revert k; decide +kernel
  | pixLo i | pixHi i | imp i => revert i; decide +kernel
  | cmd | status | cfg | tiledim | threshLo | threshHi | force | opa | opb | opc | res | rinfo | rerrLo | rerrHi =>
    decide +kernel

/-- A register stands at its offset and at no other. -/
theorem regAt_eq_some_iff {off : Nat} {g : Reg} : regAt off = some g ↔ off = g.offset := by
  refine ⟨fun h => ?_, fun h => h ▸ regAt_offset g⟩
  have hfound : (g.offset == off) = true := List.find?_some (p := fun r : Reg => r.offset == off) h
  exact (beq_iff_eq.mp hfound).symm

theorem regAt_eq_none_iff {off : Nat} : regAt off = none ↔ ∀ g : Reg, off ≠ g.offset := by
  simp only [Option.eq_none_iff_forall_ne_some, ne_eq, regAt_eq_some_iff]

/-- Every register is an aligned word of the window, and none lies in the two gaps 0x060 to 0x0FC and 0x1C0 to
0x1FC. -/
theorem Reg.offset_range (g : Reg) :
    g.offset % 4 = 0 ∧ g.offset < 0x1C0 ∧ (g.offset < 0x060 ∨ 0x100 ≤ g.offset) := by
  cases g with
  | out | bin | pixLo | pixHi | imp => simp only [Reg.offset]; omega
  | _ => decide

/-- The two single words of the map that are no registers. -/
theorem Reg.offset_ne_holes (g : Reg) : g.offset ≠ 0x01C ∧ g.offset ≠ 0x034 := by
  cases g with
  | out | bin | pixLo | pixHi | imp => simp only [Reg.offset]; omega
  | _ => decide

/-! ### The value of a bus read (20_memory.md R84, 10_state.md R50) -/

theorem State.busValue_of_written {s : State} {off : Nat} {g : Reg} (hg : regAt off = some g)
    (hw : s.unwritten g = false) : s.busValue off = s.regValue g := by
  simp [State.busValue, hg, hw]

theorem State.busValue_unmapped (s : State) {off : Nat} (h : regAt off = none) : s.busValue off = 0 := by
  simp [State.busValue, h]

/-! ### Storing in a register -/

/-- A read-only register and CMD store nothing (10_state.md R50). -/
theorem RwRegs.write_of_storedBits_none (r : RwRegs) (v : Word) {g : Reg} (h : g.storedBits = none) :
    r.write v g = r := by
  cases g with
  | cmd | status | res | rinfo | rerrLo | rerrHi | out => rfl
  | cfg | tiledim | threshLo | threshHi | force | opa | opb | opc | bin | pixLo | pixHi | imp => cases h

/-- An idle machine after a write to a register other than CMD; `busWrite_reg` ties it to the bus. -/
def State.store (s : State) (g : Reg) (v : Word) : State := { s with rw := s.rw.write v g }

theorem State.store_of_storedBits_none (s : State) (v : Word) {g : Reg} (h : g.storedBits = none) :
    s.store g v = s := by
  rw [State.store, RwRegs.write_of_storedBits_none _ _ h]

theorem State.regValue_store_same (s : State) {g : Reg} {m : Word} (v : Word) (h : g.storedBits = some m) :
    (s.store g v).regValue g = v &&& m := by
  cases g with
  | cmd | status | res | rinfo | rerrLo | rerrHi | out => cases h
  | cfg | tiledim | force => cases h; rfl
  | threshLo | threshHi | opa | opb | opc => cases h; exact BitVec.and_allOnes.symm
  | bin k | pixLo k | pixHi k =>
    cases h; rw [BitVec.and_allOnes]; simp [State.regValue, State.store, RwRegs.write]
  | imp k => cases h; simp [State.regValue, State.store, RwRegs.write]

theorem State.regValue_store_ne (s : State) {g g' : Reg} (v : Word) (h : g' ≠ g) :
    (s.store g v).regValue g' = s.regValue g' := by
  have other {n : Nat} {i j : Fin n} (x : Vector Word n) (w : Word) (hij : j ≠ i) : (x.set i w)[j] = x[j] :=
    Vector.getElem_set_ne _ _ fun he => hij (Fin.ext he.symm)
  cases g with
  | cmd | status | res | rinfo | rerrLo | rerrHi | out => rfl
  | cfg | tiledim | threshLo | threshHi | force | opa | opb | opc =>
    -- `g'` is the register written, which `h` excludes, or it stands in another field
    cases g' <;> first | exact absurd rfl h | rfl
  | bin i => cases g' with
    | bin j => exact other _ _ fun he => h (congrArg _ he)
    | _ => rfl
  | pixLo i => cases g' with
    | pixLo j => exact other _ _ fun he => h (congrArg _ he)
    | _ => rfl
  | pixHi i => cases g' with
    | pixHi j => exact other _ _ fun he => h (congrArg _ he)
    | _ => rfl
  | imp i => cases g' with
    | imp j => exact other _ _ fun he => h (congrArg _ he)
    | _ => rfl

/-- A store marks the PIX word it writes (70_reset_and_hazards.md R463). -/
theorem State.unwritten_store_same (s : State) (g : Reg) (v : Word) : (s.store g v).unwritten g = false := by
  cases g with
  | pixLo i | pixHi i => simp [State.unwritten, State.store, RwRegs.write]
  | _ => rfl

/-- A store clears no written mark. -/
theorem State.unwritten_store {s : State} {g' : Reg} (g : Reg) (v : Word) (h : s.unwritten g' = false) :
    (s.store g v).unwritten g' = false := by
  have marked {i j : Fin 16} (x : Vector Bool 16) (hx : (!x[j]) = false) : (!(x.set i true)[j]) = false := by
    simp_all [Vector.getElem_set]
  cases g with
  | pixLo i => cases g' with
    | pixLo j => exact marked _ h
    | _ => exact h
  | pixHi i => cases g' with
    | pixHi j => exact marked _ h
    | _ => exact h
  | _ => exact h

end Sys2Proof.Machine
end

