-- ==== Sys2Proof/Proofs/BusAccess.lean ====
section
/-! SUPPORT. One step with a bus access of the host: a read, a write to an idle machine, and an access that CORE does
not define. -/

namespace Sys2Proof.Machine

/-! ### Defined accesses (20_memory.md R83) -/

/-- The host's access at an aligned offset of the window has a step. -/
theorem accessStop_offset {base off : Nat} (halign : off % 4 = 0) (hlt : off < 0x200) :
    accessStop base (base + off) 4 = none :=
  accessStop_none (by omega) (by omega) (by omega)

/-- The machine with the host's next access taken off its list and the coming level of the reset input past. -/
def State.taken (s : State) (es : List HostEvent) : State := { s with host := es, resetIn := s.resetIn.tail }

/-- Of a running command, time changes only the count of steps. -/
theorem State.tick_eq (s : State) : s.tick = { s with seq := s.tick.seq } := by
  unfold State.tick
  split <;> rfl

theorem State.regValue_tick (s : State) (g : Reg) : s.tick.regValue g = s.regValue g := by
  rw [s.tick_eq]; cases g <;> rfl

theorem State.unwritten_tick (s : State) (g : Reg) : s.tick.unwritten g = s.unwritten g := by
  rw [s.tick_eq]; cases g <;> rfl

theorem State.tick_taken (s : State) (es : List HostEvent) :
    { s.pastReset.tick with host := es } = (s.taken es).tick := by
  cases hs : s.seq <;> simp [State.taken, State.pastReset, State.tick, hs]

/-- The host moves, on an idle machine or while a command runs that is not at its completion step. -/
theorem step_host {s : State} {e : HostEvent} {es : List HostEvent} (hhost : s.host = e :: es)
    (hstop : e.stop s.params.coreBase = none) (hreset : s.resetAsserted = false)
    (hleft : ∀ r, s.seq = .busy r → r.left ≠ 0) : step s = hostStep e (s.taken es).tick := by
  cases hs : s.seq with
  | idle => rw [step_idle_host hs hhost hstop hreset, (s.taken es).tick_idle hs]; rfl
  | busy r => rw [step_busy_host hs (hleft r hs) hhost hstop hreset, s.tick_taken]

theorem step_read {s : State} {off : Nat} {es : List HostEvent} (halign : off % 4 = 0) (hlt : off < 0x200)
    (hhost : s.host = .read (s.params.coreBase + off) 4 :: es) (hreset : s.resetAsserted = false)
    (hleft : ∀ r, s.seq = .busy r → r.left ≠ 0) : step s = .next ((s.taken es).tick.busRead off) := by
  rw [step_host hhost (accessStop_offset halign hlt) hreset hleft]
  simp [hostStep, State.perform, State.taken]

theorem step_write_idle {s : State} {off : Nat} {v : Word} {es : List HostEvent} (hidle : s.seq = .idle)
    (halign : off % 4 = 0) (hlt : off < 0x200) (hreset : s.resetAsserted = false)
    (hhost : s.host = .write (s.params.coreBase + off) 4 v :: es) :
    step s = .next ((s.taken es).busWrite off v) := by
  rw [step_idle_host hidle hhost (accessStop_offset halign hlt) hreset]
  simp [hostStep, State.perform, State.taken, State.pastReset]

/-- Settles O53: the read is inside the window, so the step is `State.busRead` after one step of time. -/
theorem readsHaveNoSideEffect : Obligations.ReadsHaveNoSideEffect := by
  intro s off es halign hlt hreset hhost hleft
  have htick : (s.taken es).tick = { s.taken es with seq := (s.taken es).tick.seq } := (s.taken es).tick_eq
  refine ⟨(s.taken es).tick.busRead off, (s.taken es).tick.busValue off, step_read halign hlt hhost hreset hleft, ?_,
    fun hidle => ?_, fun r hr => ?_, fun g hg hw => ?_, fun hnone => ?_⟩
  · rw [htick]; rfl
  · rw [(s.taken es).tick_idle hidle]; exact hidle
  · exact (s.taken es).tick_busy hr
  · rw [State.busValue_of_written hg (((s.taken es).unwritten_tick g).trans hw)]
    exact (s.taken es).regValue_tick g
  · exact State.busValue_unmapped _ hnone

/-! ### Writes to an idle machine (70_reset_and_hazards.md R462) -/

theorem busWrite_reg {s : State} {off : Nat} {g : Reg} (v : Word) (hidle : s.seq = .idle)
    (hg : regAt off = some g) (hcmd : g ≠ .cmd) : s.busWrite off v = s.store g v := by
  obtain ⟨r, hbusy, -⟩ | ⟨-, hg', -⟩ | ⟨-, g', hg', -, hw⟩ | ⟨-, hg', -⟩ := busWrite_cases s off v
  · cases hidle.symm.trans hbusy
  · cases hg.symm.trans hg'; exact absurd rfl hcmd
  · cases hg.symm.trans hg'; exact hw
  · cases hg.symm.trans hg'

theorem busWrite_unmapped {s : State} {off : Nat} (v : Word) (hidle : s.seq = .idle) (hg : regAt off = none) :
    s.busWrite off v = s := by
  simp [State.busWrite, hidle, State.writeIdle, hg]

/-- Settles O54: the step stores the writable bits in `g`, which no other register shows. -/
theorem writtenRegisterReadsBack : Obligations.WrittenRegisterReadsBack := by
  intro s g v m es hidle hbits hreset hhost
  have hcmd : g ≠ .cmd := by rintro rfl; cases hbits
  obtain ⟨halign, hlt, -⟩ := g.offset_range
  have hstep : step s = .next ((s.taken es).store g v) := by
    rw [step_write_idle hidle halign (by omega) hreset hhost]
    exact congrArg _ (busWrite_reg v hidle (regAt_offset g) hcmd)
  refine ⟨_, hstep, rfl, ?_, fun g' hne hw => ?_⟩
  · rw [State.busValue_of_written (regAt_offset g) (State.unwritten_store_same _ g v),
      State.regValue_store_same _ v hbits]
  · have hafter : ((s.taken es).store g v).unwritten g' = false := State.unwritten_store (s := s.taken es) g v hw
    rw [State.busValue_of_written (regAt_offset g') hw, State.busValue_of_written (regAt_offset g') hafter]
    exact (s.taken es).regValue_store_ne v hne

/-- A write that stores nothing: the only thing that happens is that the access is over (10_state.md R50). -/
theorem step_write_ignored {s : State} {off : Nat} {v : Word} {es : List HostEvent} (hidle : s.seq = .idle)
    (halign : off % 4 = 0) (hlt : off < 0x200) (hreset : s.resetAsserted = false)
    (hhost : s.host = .write (s.params.coreBase + off) 4 v :: es)
    (hg : regAt off = none ∨ ∃ g, regAt off = some g ∧ g ≠ .cmd ∧ g.storedBits = none) :
    step s = .next { s with host := es, resetIn := s.resetIn.tail } := by
  rw [step_write_idle hidle halign hlt hreset hhost]
  obtain hnone | ⟨g, hsome, hcmd, hbits⟩ := hg
  · exact congrArg _ (busWrite_unmapped v hidle hnone)
  · have hstore : (s.taken es).busWrite off v = (s.taken es).store g v := busWrite_reg v hidle hsome hcmd
    exact congrArg _ (hstore.trans (State.store_of_storedBits_none _ v hbits))

/-- Settles O55: the map is `regAt_eq_some_iff`, and an offset that no register has is unmapped. -/
theorem unmappedAndReadOnlyWritesIgnored : Obligations.UnmappedAndReadOnlyWritesIgnored := by
  refine ⟨?_, fun k => ⟨regAt_offset (.out k), regAt_offset (.bin k)⟩,
    fun i => ⟨regAt_offset (.pixLo i), regAt_offset (.pixHi i), regAt_offset (.imp i)⟩, fun off g hg => ?_,
    ⟨?_, ?_, fun off hoff => ?_⟩, fun s off v es => step_write_ignored⟩
  · simp only [regAt_eq_some_iff, Reg.offset, and_self]
  · obtain ⟨halign, hlt, -⟩ := g.offset_range
    have hoff := regAt_eq_some_iff.mp hg
    omega
  · exact regAt_eq_none_iff.mpr fun g => g.offset_ne_holes.1.symm
  · exact regAt_eq_none_iff.mpr fun g => g.offset_ne_holes.2.symm
  · refine regAt_eq_none_iff.mpr fun g => ?_
    have hrange := g.offset_range
    omega

/-! ### Accesses that CORE does not define (60_exceptions.md R428) -/

/-- An idle machine whose host is stuck stops when no hardware reset is to come. -/
theorem step_stuck_fault {s : State} {e : HostEvent} {es : List HostEvent} {f : Fault} (hidle : s.seq = .idle)
    (hhost : s.host = e :: es) (hstop : e.stop s.params.coreBase = some f) (hreset : s.resetAsserted = false)
    (hno : true ∉ s.resetIn.tail) : step s = .fault f := by
  simp [step_run hreset, runStep, idleStep, hidle, hhost, hstop, stuckStep, hno]

/-- While a hardware reset is still to come, time passes over a stuck host. -/
theorem step_stuck_waits {s : State} {e : HostEvent} {es : List HostEvent} {f : Fault} (hidle : s.seq = .idle)
    (hhost : s.host = e :: es) (hstop : e.stop s.params.coreBase = some f) (hreset : s.resetAsserted = false)
    (hcomes : true ∈ s.resetIn.tail) : step s = .next s.pastReset := by
  simp [step_run hreset, runStep, idleStep, hidle, hhost, hstop, stuckStep, hcomes]

/-- A stuck host does not hold up a running command. -/
theorem step_stuck_busy {s : State} {r : Running} {e : HostEvent} {es : List HostEvent} {f : Fault}
    (hbusy : s.seq = .busy r) (hleft : r.left ≠ 0) (hhost : s.host = e :: es)
    (hstop : e.stop s.params.coreBase = some f) (hreset : s.resetAsserted = false) :
    step s = .next s.pastReset.tick := by
  simp [step_run hreset, runStep, busyStep, hbusy, hleft, hhost, hstop]

/-- A reset input that is not asserted now is asserted later exactly if it is asserted at all. -/
theorem State.mem_resetIn_tail {s : State} (h : s.resetAsserted = false) :
    true ∈ s.resetIn.tail ↔ true ∈ s.resetIn := by
  unfold State.resetAsserted at h
  cases hr : s.resetIn with
  | nil => rfl
  | cons b bs =>
    rw [hr] at h
    cases h
    simp

theorem accessStop_stuck {base addr n : Nat} (hlo : base ≤ addr) (hhi : addr < base + 0x200)
    (hbad : n ≠ 4 ∨ (addr - base) % 4 ≠ 0) : accessStop base addr n = some .stuckAccess := by
  obtain ⟨-, -, -, hn, halign⟩ | ⟨h, -⟩ | ⟨-, hout⟩ := accessStop_cases base addr n
  · omega
  · exact h
  · omega

theorem accessStop_outside {base addr : Nat} (n : Nat) (hout : addr < base ∨ base + 0x200 ≤ addr) :
    accessStop base addr n = some .outsideWindow := by
  obtain ⟨-, hlo, hhi, -⟩ | ⟨-, hlo, hhi, -⟩ | ⟨h, -⟩ := accessStop_cases base addr n
  · omega
  · omega
  · exact h

/-- Settles O56: either access has no step, and then the three things a stuck host can mean. -/
theorem undefinedAccessesStop : Obligations.UndefinedAccessesStop := by
  intro s addr n v es f hbad haccess hreset
  have hstop : accessStop s.params.coreBase addr n = some f := by
    obtain ⟨hlo, hhi, hn, rfl⟩ | ⟨hout, rfl⟩ := hbad
    · exact accessStop_stuck hlo hhi hn
    · exact accessStop_outside n hout
  obtain ⟨e, hhost, hstop⟩ : ∃ e, s.host = e :: es ∧ HostEvent.stop s.params.coreBase e = some f := by
    obtain hw | hr := haccess
    · exact ⟨_, hw, hstop⟩
    · exact ⟨_, hr, hstop⟩
  refine ⟨fun hidle hno => ?_, fun hidle hcomes => ?_, fun r hbusy hleft => ?_⟩
  · exact step_stuck_fault hidle hhost hstop hreset (mt (State.mem_resetIn_tail hreset).mp hno)
  · exact step_stuck_waits hidle hhost hstop hreset ((State.mem_resetIn_tail hreset).mpr hcomes)
  · rw [step_stuck_busy hbusy hleft hhost hstop hreset, State.tick_eq, s.pastReset.tick_busy hbusy]
    rfl

end Sys2Proof.Machine
end

