-- ==== Sys2Proof/Proofs/Determinism.lean ====
section
/-! SUPPORT. What a command answers is a function of its latched inputs (20_memory.md R87): from two states with the
same inputs it ends in the same way. -/

namespace Sys2Proof.Machine

/-- Two STATUS words with the same ERR, ERRCODE and FALLBACK. -/
def SameFlags (a b : Word) : Prop :=
  statusErr a = statusErr b ∧ statusErrCode a = statusErrCode b ∧ statusFallback a = statusFallback b

/-- OUT, RINFO and RERR, the registers of an encoded block, are the same in two states. -/
def SameBlock (s t : State) : Prop :=
  t.out = s.out ∧ t.rinfo = s.rinfo ∧ t.rerrLo = s.rerrLo ∧ t.rerrHi = s.rerrHi

/-- From `s` to `t` and from `s'` to `t'` a command had the same end: the same flags, and each group of result
registers kept in both or given the same values in both. -/
structure SameEnd (s s' t t' : State) : Prop where
  flags : SameFlags t.status t'.status
  res : (t.res = s.res ∧ t'.res = s'.res) ∨ t.res = t'.res
  block : (SameBlock s t ∧ SameBlock s' t') ∨ SameBlock t' t

/-- Two outcomes of a command, from `s` and from `s'`, agree: the same fault, or next states with the same end. -/
inductive SameOutcome (s s' : State) : Outcome → Outcome → Prop
  | fault (f : Fault) : SameOutcome s s' (.fault f) (.fault f)
  | next {t t' : State} (h : SameEnd s s' t t') : SameOutcome s s' (.next t) (.next t')

section

variable {s s' : State} {o o' : Outcome}

theorem SameOutcome.fault_right {f : Fault} (h : SameOutcome s s' o o') (ho : o = .fault f) : o' = .fault f := by
  cases h with
  | fault => exact ho
  | next => cases ho

theorem SameOutcome.next_right {t : State} (h : SameOutcome s s' o o') (ho : o = .next t) :
    ∃ t', o' = .next t' ∧ SameEnd s s' t t' := by
  cases h with
  | fault => cases ho
  | next hend => cases ho; exact ⟨_, rfl, hend⟩

/-! ### The ends of commands -/

/-- STATUS after a completion without error is the same but for WIGN (10_state.md R31). -/
theorem sameFlags_completed (old old' : Word) (fb : Bool) :
    SameFlags (statusCompleted old fb) (statusCompleted old' fb) := by
  obtain ⟨-, -, herr, hcode, -, hfb⟩ := completedOk_statusCompleted old fb
  obtain ⟨-, -, herr', hcode', -, hfb'⟩ := completedOk_statusCompleted old' fb
  exact ⟨herr.trans herr'.symm, hcode.trans hcode'.symm, hfb.trans hfb'.symm⟩

/-- STATUS after an error is the same but for WIGN (60_exceptions.md R424). -/
theorem sameFlags_error (old old' : Word) (e : ErrCode) : SameFlags (statusError old e) (statusError old' e) := by
  obtain ⟨-, -, herr, hcode, -, hfb⟩ := completedErr_statusError old e
  obtain ⟨-, -, herr', hcode', -, hfb'⟩ := completedErr_statusError old' e
  exact ⟨herr.trans herr'.symm, hcode.trans hcode'.symm, hfb.trans hfb'.symm⟩

theorem sameEnd_complete (fb : Bool) : SameEnd s s' (s.complete fb) (s'.complete fb) where
  flags := sameFlags_completed s.status s'.status fb
  res := .inl (by simp)
  block := .inl (by simp [SameBlock])

theorem sameEnd_completeRes (v : Word) : SameEnd s s' (s.completeRes v) (s'.completeRes v) where
  flags := sameFlags_completed s.status s'.status false
  res := .inr (by simp)
  block := .inl (by simp [SameBlock])

theorem sameEnd_raise (e : ErrCode) : SameEnd s s' (s.raise e) (s'.raise e) where
  flags := sameFlags_error s.status s'.status e
  res := .inl (by simp)
  block := .inl (by simp [SameBlock])

theorem sameEnd_raiseReservedMode : SameEnd s s' s.raiseReservedMode s'.raiseReservedMode where
  flags := sameFlags_error s.status s'.status .rsvdMode
  res := .inr (by simp [State.raiseReservedMode])
  block := .inl (by simp [State.raiseReservedMode, SameBlock])

theorem sameEnd_softReset : SameEnd s s' s.softReset s'.softReset where
  flags := ⟨rfl, rfl, rfl⟩
  res := .inr rfl
  block := .inr ⟨rfl, rfl, rfl, rfl⟩

theorem sameEnd_commit (blk : Block) (info : Word) (err : Nat) (fb : Bool) :
    SameEnd s s' (s.commit blk info err fb) (s'.commit blk info err fb) where
  flags := sameFlags_completed s.status s'.status fb
  res := .inl (by simp)
  block := .inr (by simp [SameBlock])

theorem sameEnd_commitSearch (fmt : Format) (c : CandRegs) :
    SameEnd s s' (s.commitSearch fmt c) (s'.commitSearch fmt c) := by
  unfold State.commitSearch
  cases c.best with
  | some b => exact sameEnd_commit _ _ _ _
  | none => exact sameEnd_commit _ _ _ _

/-! ### The commands -/

/-- A unit command is its checks and its result, both functions of the latched inputs (30_encoding.md R112). -/
theorem sameOutcome_unit (result : RwRegs → Except ErrCode Word) (hin : s.inputs = s'.inputs) :
    SameOutcome s s' (unitResult s (result s.inputs)) (unitResult s' (result s'.inputs)) := by
  rw [hin]
  cases result s'.inputs with
  | error e => exact .next (sameEnd_raise e)
  | ok v => exact .next (sameEnd_completeRes v)

theorem sameOutcome_getmode (hin : s.inputs = s'.inputs) : SameOutcome s s' (execGetmode s) (execGetmode s') := by
  unfold execGetmode
  rw [hin]
  cases blockMode (cfgFormat s'.inputs.cfg) (blockOfWords s'.inputs.bin) with
  | some m => exact .next (sameEnd_completeRes _)
  | none => exact .next sameEnd_raiseReservedMode

/-- ENCODE also reads the parameters of its machine (00_scope.md R7, log 15). -/
theorem sameOutcome_encode (hparams : s.params = s'.params) (hin : s.inputs = s'.inputs) :
    SameOutcome s s' (execEncode s) (execEncode s') := by
  unfold execEncode
  rw [hin, hparams]
  cases encodeChecks s'.inputs with
  | error e => exact .next (sameEnd_raise e)
  | ok u =>
    cases tileWritten s'.inputs with
    | true => exact .next (sameEnd_commitSearch _ _)
    | false => exact .fault _

theorem sameOutcome_exec {i : Instr} (hcmd : i.encoding = .cmd) (hparams : s.params = s'.params)
    (hin : s.inputs = s'.inputs) : SameOutcome s s' (exec i s) (exec i s') := by
  cases i with
  | nop => exact .next (sameEnd_complete false)
  | sreset => exact .next sameEnd_softReset
  | reservedCmd w => exact .next (sameEnd_raise .badCmd)
  | encode => exact sameOutcome_encode hparams hin
  | getmode => exact sameOutcome_getmode hin
  | h2w => exact sameOutcome_unit h2wResult hin
  | w2h => exact sameOutcome_unit w2hResult hin
  | quant6 => exact sameOutcome_unit quant6Result hin
  | unquant6 => exact sameOutcome_unit unquant6Result hin
  | finish6 => exact sameOutcome_unit finish6Result hin
  | quant7 => exact sameOutcome_unit quant7Result hin
  | expand7 => exact sameOutcome_unit expand7Result hin
  | weight => exact sameOutcome_unit weightResult hin
  | lerp => exact sameOutcome_unit lerpResult hin
  | shape => exact sameOutcome_unit shapeResult hin
  | anchor => exact sameOutcome_unit anchorResult hin
  | delta6 => exact sameOutcome_unit delta6Result hin
  | _ => cases hcmd

end

/-- Settles O59: both outcomes are the same fault, or next states with the same end. -/
theorem latchedInputsDecideResults : Obligations.LatchedInputsDecideResults := by
  intro i s s' hcmd hparams hin
  have hsame : SameOutcome s s' (exec i s) (exec i s') := sameOutcome_exec hcmd hparams hin
  refine ⟨fun f hf => hsame.fault_right hf, fun t ht => ?_⟩
  obtain ⟨t', ht', ⟨herr, hcode, hfb⟩, hres, hblock⟩ := hsame.next_right ht
  refine ⟨t', ht', herr, hcode, hfb, hres, hblock.imp_left ?_⟩
  rintro ⟨⟨hout, hinfo, hlo, hhi⟩, hkept'⟩
  exact ⟨hout, hinfo, hlo, hhi, hkept'⟩

end Sys2Proof.Machine
end

