-- ==== Sys2Proof/Proofs/CommandWords.lean ====
section
/-! SUPPORT. The command word: which words are reserved, and what NOP and a reserved word do. -/

namespace Sys2Proof.Machine

/-- The opcodes of the table are the numbers of its rows (30_encoding.md R110). -/
theorem map_fst_commandTable : commandTable.map Prod.fst = commandOpcodes := rfl

/-- A word outside the command table is reserved (30_encoding.md R111). -/
theorem decodeCmd_of_not_mem {w : Word} (h : w.toNat ∉ commandOpcodes) : decodeCmd w = .reservedCmd w := by
  have hnone : commandTable.lookup w.toNat = none := by
    refine List.lookup_eq_none_iff.2 fun p hp => ?_
    have hmem : p.1 ∈ commandOpcodes := map_fst_commandTable ▸ List.mem_map_of_mem hp
    have hne : w.toNat ≠ p.1 := fun e => h (e ▸ hmem)
    simpa using hne
  simp [decodeCmd, hnone]

/-- Decoding the word of a well-formed command gives the command back (30_encoding.md R110, R111). -/
theorem decodeCmd_encodeCmd {i : Instr} (hcmd : i.encoding = .cmd) (hwf : i.wf = true) :
    decodeCmd (encodeCmd i) = i := by
  cases i with
  | reservedCmd w => exact decodeCmd_of_not_mem (by simpa [Instr.wf, encodeCmd] using hwf)
  | nop | encode | getmode | sreset | h2w | w2h | quant6 | unquant6 | finish6 | quant7 | expand7 | weight | lerp
  | shape | anchor | delta6 => rfl
  | _ => cases hcmd

/-- Settles O1: each word is the one its command is encoded to, and the mode fields of the blocks are read off. -/
theorem commandWordsDecode : Obligations.CommandWordsDecode := by
  have hmodes : getMode7 0x000000000001E1E1E1E3FFFE0F83E010 = some 4 ∧
      getMode7 0xFFFFFFFFFFFFFFFFFFFFFFFFFFFFFF00 = none ∧
      getMode6 0x000000000000000000000003DEF7BDE0 = some 1 ∧
      getMode6 0xFF00FF00FF00FF0108421083DEF7BDE3 = some 11 ∧ getMode6 0x13 = none := by decide
  exact ⟨decodeCmd_encodeCmd (i := .nop) rfl rfl, decodeCmd_encodeCmd (i := .encode) rfl rfl,
    decodeCmd_encodeCmd (i := .getmode) rfl rfl, decodeCmd_encodeCmd (i := .sreset) rfl rfl,
    decodeCmd_encodeCmd (i := .h2w) rfl rfl, decodeCmd_encodeCmd (i := .w2h) rfl rfl,
    decodeCmd_encodeCmd (i := .quant6) rfl rfl, decodeCmd_encodeCmd (i := .unquant6) rfl rfl,
    decodeCmd_encodeCmd (i := .finish6) rfl rfl, decodeCmd_encodeCmd (i := .quant7) rfl rfl,
    decodeCmd_encodeCmd (i := .expand7) rfl rfl, decodeCmd_encodeCmd (i := .weight) rfl rfl,
    decodeCmd_encodeCmd (i := .lerp) rfl rfl, decodeCmd_encodeCmd (i := .shape) rfl rfl,
    decodeCmd_encodeCmd (i := .anchor) rfl rfl, decodeCmd_encodeCmd (i := .delta6) rfl rfl, hmodes⟩

/-- No opcode of the table lies in the reserved ranges of R111. -/
theorem not_mem_commandOpcodes {n : Nat} (h : (3 ≤ n % 256 ∧ n % 256 ≤ 14) ∨ 28 ≤ n % 256 ∨ 256 ≤ n) :
    n ∉ commandOpcodes := by
  simp only [commandOpcodes, List.mem_cons, List.not_mem_nil, or_false]
  omega

/-- Settles O2: the reserved ranges miss the table, and a reserved word raises BAD_CMD. -/
theorem reservedWordsRaiseBadCmd : Obligations.ReservedWordsRaiseBadCmd := fun _ s h =>
  ⟨decodeCmd_of_not_mem (not_mem_commandOpcodes h), s.raise .badCmd, rfl, onlyErrorRaised_raise s .badCmd⟩

/-- Right after an acceptance WIGN is clear, so a completion without error leaves DONE alone (10_state.md R31). -/
theorem statusCompleted_accepted : statusCompleted statusAccepted false = 0x00000002 := by decide

/-- Settles O3: NOP is the completion without error. -/
theorem nopCompletes : Obligations.NopCompletes := fun s =>
  ⟨⟨s.complete false, rfl, rfl, completedOk_statusCompleted s.status false⟩,
    fun n => ⟨(s.acceptWith 0 n).complete false, rfl, statusCompleted_accepted⟩⟩

end Sys2Proof.Machine
end

