-- ==== Sys2Proof/Proofs/BlockFields.lean ====
section
/-! SUPPORT. The fields of a block: packed back to back they are read back one after another, and a field cut into
pieces is put together again from them. -/

namespace Sys2Proof.Machine

/-! ### Fields back to back -/

/-- Reading the first of two groups of packed fields gives its values, cut to their widths, and leaves the second. -/
theorem readFields_packFields_append (fs gs : List (Nat × Nat)) :
    readFields (fs.map Prod.fst) (packFields (fs ++ gs)) = (fs.map fun f => f.2 % 2 ^ f.1, packFields gs) := by
  induction fs with
  | nil => rfl
  | cons f fs ih =>
    have hmod : f.2 % 2 ^ f.1 < 2 ^ f.1 := Nat.mod_lt _ (Nat.two_pow_pos _)
    simp [readFields, packFields, Nat.add_mul_div_left, Nat.div_eq_of_lt hmod, ih]

/-- `fitsWidths` holds for one value below two to its width per width. -/
theorem fitsWidths_iff {ws vs : List Nat} : fitsWidths ws vs = true ↔ List.Forall₂ (fun w v => v < 2 ^ w) ws vs := by
  induction ws generalizing vs with
  | nil => cases vs <;> simp [fitsWidths]
  | cons w ws ih => cases vs <;> simp [fitsWidths, ih]

section

variable {ws vs : List Nat} (h : fitsWidths ws vs = true)
include h

theorem length_of_fitsWidths : ws.length = vs.length := (fitsWidths_iff.1 h).length_eq

theorem map_fst_zip_of_fitsWidths : (ws.zip vs).map Prod.fst = ws :=
  List.map_fst_zip (length_of_fitsWidths h).le

/-- Values that fit their widths are what the fields hold. -/
theorem map_mod_zip_of_fitsWidths : ((ws.zip vs).map fun f => f.2 % 2 ^ f.1) = vs := by
  replace h := fitsWidths_iff.1 h
  induction h with
  | nil => rfl
  | cons hlt _ ih => simp [Nat.mod_eq_of_lt hlt, ih]

/-- A value that fits its width, at any place. -/
theorem getD_lt_of_fitsWidths (k : Nat) : vs.getD k 0 < 2 ^ ws.getD k 0 := by
  replace h := fitsWidths_iff.1 h
  induction h generalizing k with
  | nil => simp
  | cons hlt _ ih =>
    cases k with
    | zero => simpa using hlt
    | succ k => simpa using ih k

/-- Reading the widths of a group of fields that fit gives their values and leaves the fields after them. -/
theorem readFields_packFields_zip (gs : List (Nat × Nat)) :
    readFields ws (packFields (ws.zip vs ++ gs)) = (vs, packFields gs) := by
  have hread := readFields_packFields_append (ws.zip vs) gs
  rwa [map_fst_zip_of_fitsWidths h, map_mod_zip_of_fitsWidths h] at hread

/-- Reading the last group. -/
theorem readFields_packFields_zip_last : readFields ws (packFields (ws.zip vs)) = (vs, 0) := by
  simpa [packFields] using readFields_packFields_zip h []

end

/-- A block holds fields of at most 128 bits as they are packed. -/
theorem toNat_block_packFields {fs : List (Nat × Nat)} (h : fieldsWidth fs ≤ 128) :
    (BitVec.ofNat 128 (packFields fs)).toNat = packFields fs := by
  rw [BitVec.toNat_ofNat, Nat.mod_eq_of_lt]
  exact (packFields_lt fs).trans_le (Nat.pow_le_pow_right (by decide) h)

/-! ### Pieces of a field -/

/-- The bits of `x` at the given places, each with its weight. -/
def bitSum (x : Nat) (places : List Nat) : Nat := (places.map fun i => bitsOf x i 1 * 2 ^ i).sum

theorem bitSum_append (x : Nat) (l l' : List Nat) : bitSum x (l ++ l') = bitSum x l + bitSum x l' := by
  simp [bitSum]

/-- A field put back to its place is the sum of its bits. -/
theorem bitsOf_mul_two_pow (x lo n : Nat) : bitsOf x lo n * 2 ^ lo = bitSum x (List.range' lo n) := by
  induction n with
  | zero => simp [bitsOf, bitSum, Nat.mod_one]
  | succ n ih =>
    have hsplit : bitsOf x lo (n + 1) = bitsOf x lo n + 2 ^ n * bitsOf x (lo + n) 1 := by
      simp only [bitsOf, pow_add, pow_one, Nat.mod_mul, Nat.div_div_eq_div_mul]
    rw [hsplit, Nat.add_mul, ih, List.range'_concat]
    simp [bitSum, pow_add]
    ring

/-- The bits at the places below `w`, in any order, sum to a number below `2 ^ w`. -/
theorem bitSum_of_perm_range {x w : Nat} {places : List Nat} (hperm : places.Perm (List.range w)) (hx : x < 2 ^ w) :
    bitSum x places = x := by
  have hsum : bitSum x places = bitSum x (List.range' 0 w) := by
    rw [← List.range_eq_range']
    exact (hperm.map _).sum_eq
  rw [hsum, ← bitsOf_mul_two_pow]
  simp [bitsOf, Nat.mod_eq_of_lt hx]

/-- The places of field `f` that a header layout holds, in the layout's order. -/
def layoutPlaces (f : Field6) (gs : List Seg6) : List Nat :=
  (gs.filter (·.f = f)).flatMap fun g => List.range' g.lo g.width

/-- Gathering the pieces of `f` from what a header holds sums the bits of `f` at the places the layout has. -/
theorem gatherField_map (x : Field6 → Nat) (f : Field6) (gs : List Seg6) :
    gatherField f gs (gs.map fun g => bitsOf (x g.f) g.lo g.width) = bitSum (x f) (layoutPlaces f gs) := by
  induction gs with
  | nil => rfl
  | cons g gs ih =>
    by_cases hf : g.f = f
    · simp [gatherField, layoutPlaces, hf, ih, bitsOf_mul_two_pow, bitSum_append]
    · simp [gatherField, layoutPlaces, hf, ih]

end Sys2Proof.Machine
end

