-- ==== Sys2Proof/Proofs/Bc7Block.lean ====
section
/-! SUPPORT. The BC7 block: its mode bits, and that unpacking gives back what was packed. -/

namespace Sys2Proof.Machine

/-! ### The mode bits -/

/-- A bit as the field reader gives it. -/
theorem bitsOf_one_eq_testBit (x i : Nat) : (bitsOf x i 1 == 1) = x.testBit i := by
  simp [bitsOf, Nat.testBit_eq_decide_div_mod_eq, Bool.beq_eq_decide_eq]

/-- The mode is the number of zeros below the lowest one of the unary code (30_encoding.md R131, R133). -/
theorem getMode7_eq_some_iff {blk : Block} {m : Nat} :
    getMode7 blk = some m ↔ m < 8 ∧ blk.toNat % 2 ^ (m + 1) = 2 ^ m := by
  simp only [getMode7, bitsOf_one_eq_testBit, List.find?_range_eq_some, List.mem_range]
  constructor
  · rintro ⟨hone, hm, hzero⟩
    refine ⟨hm, Nat.eq_of_testBit_eq fun j => ?_⟩
    rw [Nat.testBit_mod_two_pow, Nat.testBit_two_pow]
    obtain hj | rfl | hj := Nat.lt_trichotomy j m
    · have := hzero j hj
      simp_all [hj.ne']
    · simp [hone]
    · simp [hj.ne, show ¬ j < m + 1 by omega]
  · rintro ⟨hm, hmod⟩
    have hbit (j : Nat) (hj : j < m + 1) : blk.toNat.testBit j = decide (m = j) := by
      rw [← Nat.testBit_two_pow, ← hmod, Nat.testBit_mod_two_pow]
      simp [hj]
    refine ⟨by simp [hbit m (by omega)], hm, fun j hj => ?_⟩
    simp [hbit j (by omega), hj.ne']

/-- A block whose low byte is zero is reserved (30_encoding.md R137). -/
theorem getMode7_eq_none_iff {blk : Block} : getMode7 blk = none ↔ blk.toNat % 2 ^ 8 = 0 := by
  simp only [getMode7, bitsOf_one_eq_testBit, List.find?_range_eq_none]
  constructor
  · intro hzero
    refine Nat.eq_of_testBit_eq fun j => ?_
    rw [Nat.testBit_mod_two_pow, Nat.zero_testBit]
    by_cases hj : j < 8
    · simpa using fun _ => hzero j hj
    · simp [hj]
  · intro hmod j hj
    have hbit : blk.toNat.testBit j = (blk.toNat % 2 ^ 8).testBit j := by
      rw [Nat.testBit_mod_two_pow, decide_eq_true hj, Bool.true_and]
    rw [hbit, hmod, Nat.zero_testBit]
    rfl

/-- The BC7 row of mode `m`. -/
def bc7Row (m : Nat) (b : Block7) : Instr :=
  match m with
  | 0 => .bc7Mode0 b
  | 1 => .bc7Mode1 b
  | 2 => .bc7Mode2 b
  | 3 => .bc7Mode3 b
  | 4 => .bc7Mode4 b
  | 5 => .bc7Mode5 b
  | 6 => .bc7Mode6 b
  | _ => .bc7Mode7 b

/-- A block with a mode decodes to the row of that mode. -/
theorem decodeBc7_of_mode {blk : Block} {m : Nat} (h : getMode7 blk = some m) :
    decodeBc7 blk = bc7Row m (unpack7 m blk) := by
  obtain ⟨hm, -⟩ := getMode7_eq_some_iff.1 h
  rw [decodeBc7, h]
  interval_cases m <;> rfl

/-- A block without a mode decodes to the reserved row. -/
theorem decodeBc7_of_reserved {blk : Block} (h : getMode7 blk = none) :
    decodeBc7 blk = .bc7Reserved (BitVec.ofNat 120 (blk.toNat / 2 ^ 8)) := by
  rw [decodeBc7, h]

/-! ### The fields -/

/-- What well-formed means, group by group (48_packer_bc7.md R361). -/
theorem Block7.wf_iff {m : Nat} {b : Block7} : b.wf m = true ↔
    fitsWidths [(bc7Mode m).pb, (bc7Mode m).rb, (bc7Mode m).isb] [b.shape, b.rot, b.isb] = true ∧
    fitsWidths (List.replicate (bc7CodeCount m) (bc7Mode m).cb) b.codes = true ∧
    fitsWidths (bc7AlphaWidths m) b.alphas = true ∧
    fitsWidths (List.replicate (bc7PbitCount m) 1) b.pbits = true ∧
    fitsWidths (bc7Index1Widths m b.shape) b.idx1 = true ∧
    fitsWidths (bc7Index2Widths m) b.idx2 = true := by
  simp [Block7.wf, and_assoc]

/-- The shape of a well-formed block is one its mode may take. -/
theorem Block7.shape_lt {m : Nat} {b : Block7} (h : b.wf m = true) : b.shape < bc7Shapes m := by
  obtain ⟨hhead, -⟩ := Block7.wf_iff.1 h
  simpa [bc7Shapes] using getD_lt_of_fitsWidths hhead 0

/-- The fields of a block after its mode, group by group (48_packer_bc7.md R361). -/
def bc7Fields (m : Nat) (b : Block7) : List (Nat × Nat) :=
  [(bc7Mode m).pb, (bc7Mode m).rb, (bc7Mode m).isb].zip [b.shape, b.rot, b.isb] ++
  ((List.replicate (bc7CodeCount m) (bc7Mode m).cb).zip b.codes ++
  ((bc7AlphaWidths m).zip b.alphas ++
  ((List.replicate (bc7PbitCount m) 1).zip b.pbits ++
  ((bc7Index1Widths m b.shape).zip b.idx1 ++
  (bc7Index2Widths m).zip b.idx2))))

theorem pack7_eq (m : Nat) (b : Block7) :
    pack7 m b = BitVec.ofNat 128 (packFields ((m + 1, 2 ^ m) :: bc7Fields m b)) := by
  simp [pack7, bc7Fields]

/-- The fields fill the block (48_packer_bc7.md R363). -/
theorem bc7_widths_sum : ∀ m < 8, ∀ s < bc7Shapes m,
    (m + 1) + (bc7Mode m).pb + (bc7Mode m).rb + (bc7Mode m).isb + bc7CodeCount m * (bc7Mode m).cb +
      (bc7AlphaWidths m).sum + bc7PbitCount m + (bc7Index1Widths m s).sum + (bc7Index2Widths m).sum = 128 := by
  decide +kernel

section

variable {m : Nat} {b : Block7} (hm : m < 8) (h : b.wf m = true)
include hm h

theorem fieldsWidth_bc7Fields : fieldsWidth ((m + 1, 2 ^ m) :: bc7Fields m b) = 128 := by
  obtain ⟨hhead, hcodes, halphas, hpbits, hidx1, hidx2⟩ := Block7.wf_iff.1 h
  rw [← bc7_widths_sum m hm b.shape (Block7.shape_lt h)]
  simp only [fieldsWidth, bc7Fields, List.map_cons, List.map_append, map_fst_zip_of_fitsWidths hhead,
    map_fst_zip_of_fitsWidths hcodes, map_fst_zip_of_fitsWidths halphas, map_fst_zip_of_fitsWidths hpbits,
    map_fst_zip_of_fitsWidths hidx1, map_fst_zip_of_fitsWidths hidx2]
  simp
  omega

/-- A packed block is its mode's unary code and above it its fields (48_packer_bc7.md R368). -/
theorem toNat_pack7 : (pack7 m b).toNat = 2 ^ m + 2 ^ (m + 1) * packFields (bc7Fields m b) := by
  have hmod : 2 ^ m % 2 ^ (m + 1) = 2 ^ m := Nat.mod_eq_of_lt (Nat.pow_lt_pow_right (by decide) (by omega))
  rw [pack7_eq, toNat_block_packFields (fieldsWidth_bc7Fields hm h).le, packFields, hmod]

theorem getMode7_pack7 : getMode7 (pack7 m b) = some m := by
  refine getMode7_eq_some_iff.2 ⟨hm, ?_⟩
  rw [toNat_pack7 hm h, Nat.add_mul_mod_self_left]
  exact Nat.mod_eq_of_lt (Nat.pow_lt_pow_right (by decide) (by omega))

/-- Unpacking a packed block gives its fields back (48_packer_bc7.md R369). -/
theorem unpack7_pack7 : unpack7 m (pack7 m b) = b := by
  obtain ⟨hhead, hcodes, halphas, hpbits, hidx1, hidx2⟩ := Block7.wf_iff.1 h
  have habove : (pack7 m b).toNat / 2 ^ (m + 1) = packFields (bc7Fields m b) := by
    rw [toNat_pack7 hm h, Nat.add_mul_div_left _ _ (Nat.two_pow_pos _),
      Nat.div_eq_of_lt (Nat.pow_lt_pow_right (by decide) (by omega)), Nat.zero_add]
  simp only [unpack7, habove, bc7Fields, readFields_packFields_zip hhead, readFields_packFields_zip hcodes,
    readFields_packFields_zip halphas, readFields_packFields_zip hpbits, List.getD_cons_zero, List.getD_cons_succ,
    readFields_packFields_zip hidx1, readFields_packFields_zip_last hidx2]

/-- A packed block decodes to the row it was packed from. -/
theorem decodeBc7_pack7 : decodeBc7 (pack7 m b) = bc7Row m b := by
  rw [decodeBc7_of_mode (getMode7_pack7 hm h), unpack7_pack7 hm h]

end

/-- A zero byte and any bits above it decode to the reserved row, with those bits. -/
theorem decodeBc7_reserved (rest : BitVec 120) :
    decodeBc7 (BitVec.ofNat 128 (rest.toNat * 2 ^ 8)) = .bc7Reserved rest := by
  have hval : (BitVec.ofNat 128 (rest.toNat * 2 ^ 8)).toNat = rest.toNat * 2 ^ 8 := by
    rw [BitVec.toNat_ofNat, Nat.mod_eq_of_lt]
    have := rest.isLt
    omega
  rw [decodeBc7_of_reserved (getMode7_eq_none_iff.2 (by rw [hval]; exact Nat.mul_mod_left _ _)), hval,
    Nat.mul_div_cancel _ (by decide), BitVec.ofNat_toNat, BitVec.setWidth_eq]

end Sys2Proof.Machine
end

