-- ==== Sys2Proof/Proofs/Bc6hBlock.lean ====
section
/-! SUPPORT. The BC6H block: its mode field, its scattered header, and that unpacking gives back what was packed. -/

namespace Sys2Proof.Machine

/-- The modes of BC6H (49_packer_bc6h.md R390). -/
def bc6hModes : List Nat := List.range' 1 14

/-! ### The mode field -/

/-- The width of the mode field (30_encoding.md R132). -/
def bc6hCodeWidth (m : Nat) : Nat := if m ≤ 2 then 2 else 5

/-- `getMode6` reads the low five bits only. -/
theorem getMode6_eq_low (blk : Block) : getMode6 blk = getMode6 (BitVec.ofNat 128 (blk.toNat % 2 ^ 5)) := by
  have htwo : bitsOf (blk.toNat % 2 ^ 5 % 2 ^ 128) 0 2 = bitsOf blk.toNat 0 2 := by
    simp only [bitsOf, pow_zero, Nat.div_one]; omega
  have hfive : bitsOf (blk.toNat % 2 ^ 5 % 2 ^ 128) 0 5 = bitsOf blk.toNat 0 5 := by
    simp only [bitsOf, pow_zero, Nat.div_one]; omega
  simp only [getMode6, BitVec.toNat_ofNat, htwo, hfive]

/-- On all 32 values of the low five bits, the mode is the one whose code stands in the mode field. -/
theorem getMode6_low_table : ∀ m ∈ bc6hModes, ∀ c < 2 ^ 5,
    (getMode6 (BitVec.ofNat 128 c) = some m ↔ c % 2 ^ bc6hCodeWidth m = (bc6hMode m).code) := by
  decide +kernel

theorem bc6hCodeWidth_le (m : Nat) : bc6hCodeWidth m ≤ 5 := by
  unfold bc6hCodeWidth; split <;> decide

/-- A block has mode `m` exactly when its mode field holds the code of `m` (30_encoding.md R132, R133). -/
theorem getMode6_eq_some_iff {blk : Block} {m : Nat} (hm : m ∈ bc6hModes) :
    getMode6 blk = some m ↔ blk.toNat % 2 ^ bc6hCodeWidth m = (bc6hMode m).code := by
  rw [getMode6_eq_low, getMode6_low_table m hm _ (Nat.mod_lt _ (by decide)),
    Nat.mod_mod_of_dvd _ (Nat.pow_dvd_pow 2 (bc6hCodeWidth_le m))]

/-- The BC6H row of mode `m`. -/
def bc6hRow (m : Nat) (b : Block6) : Instr :=
  match m with
  | 1 => .bc6hMode1 b
  | 2 => .bc6hMode2 b
  | 3 => .bc6hMode3 b
  | 4 => .bc6hMode4 b
  | 5 => .bc6hMode5 b
  | 6 => .bc6hMode6 b
  | 7 => .bc6hMode7 b
  | 8 => .bc6hMode8 b
  | 9 => .bc6hMode9 b
  | 10 => .bc6hMode10 b
  | 11 => .bc6hMode11 b
  | 12 => .bc6hMode12 b
  | 13 => .bc6hMode13 b
  | _ => .bc6hMode14 b

/-- A block with a mode decodes to the row of that mode. -/
theorem decodeBc6h_of_mode {blk : Block} {m : Nat} (hm : m ∈ bc6hModes) (h : getMode6 blk = some m) :
    decodeBc6h blk = bc6hRow m (unpack6 m blk) := by
  rw [decodeBc6h, h]
  obtain ⟨hlo, hhi⟩ : 1 ≤ m ∧ m < 15 := by simpa [bc6hModes] using hm
  interval_cases m <;> rfl

/-- The reserved mode fields announce no mode (30_encoding.md R137). -/
theorem getMode6_reserved {blk : Block} (h : blk.toNat % 2 ^ 5 ∈ [0x13, 0x17, 0x1B, 0x1F]) : getMode6 blk = none := by
  have htable : ∀ c ∈ [0x13, 0x17, 0x1B, 0x1F], getMode6 (BitVec.ofNat 128 c) = none := by decide
  rw [getMode6_eq_low]
  exact htable _ h

/-- The reserved row of a mode field. -/
def bc6hReservedRow (c : Nat) (rest : BitVec 123) : Instr :=
  if c = 0x13 then .bc6hReserved13 rest
  else if c = 0x17 then .bc6hReserved17 rest
  else if c = 0x1B then .bc6hReserved1B rest
  else .bc6hReserved1F rest

/-- A block without a mode decodes to the reserved row of its mode field. -/
theorem decodeBc6h_of_reserved {blk : Block} (h : getMode6 blk = none) :
    decodeBc6h blk = bc6hReservedRow (blk.toNat % 2 ^ 5) (BitVec.ofNat 123 (blk.toNat / 2 ^ 5)) := by
  rw [decodeBc6h, h]
  simp [bc6hReservedRow, bitsOf]

/-- A reserved mode field and any bits above it decode to the row of the field, with those bits. -/
theorem decodeBc6h_reserved (rest : BitVec 123) {c : Nat} (hc : c ∈ [0x13, 0x17, 0x1B, 0x1F]) :
    decodeBc6h (BitVec.ofNat 128 (rest.toNat * 2 ^ 5 + c)) = bc6hReservedRow c rest := by
  have hlt : c < 2 ^ 5 := (by decide : ∀ c ∈ [0x13, 0x17, 0x1B, 0x1F], c < 2 ^ 5) c hc
  have hval : (BitVec.ofNat 128 (rest.toNat * 2 ^ 5 + c)).toNat = rest.toNat * 2 ^ 5 + c := by
    rw [BitVec.toNat_ofNat, Nat.mod_eq_of_lt]
    have := rest.isLt
    omega
  have hlow : (rest.toNat * 2 ^ 5 + c) % 2 ^ 5 = c := by omega
  have hhigh : (rest.toNat * 2 ^ 5 + c) / 2 ^ 5 = rest.toNat := by omega
  rw [decodeBc6h_of_reserved (getMode6_reserved (by rwa [hval, hlow])), hval, hlow, hhigh, BitVec.ofNat_toNat,
    BitVec.setWidth_eq]

/-! ### The header -/

/-- The width of a header field in mode `m` (49_packer_bc6h.md R390, R391). -/
def bc6hHeaderWidth (m : Nat) : Field6 → Nat
  | .m => bc6hCodeWidth m
  | .d => if m ≤ 10 then 5 else 0
  | f => (bc6hEndWidths m).getD (endFields.idxOf f) 0

/-- The layout of every mode places each bit of each header field exactly once (49_packer_bc6h.md R392). -/
theorem layoutPlaces_perm {m : Nat} (hm : m ∈ bc6hModes) (f : Field6) :
    (layoutPlaces f (bc6hLayout m)).Perm (List.range (bc6hHeaderWidth m f)) := by
  have htable : ∀ m ∈ bc6hModes, ∀ f ∈ .m :: .d :: endFields,
      (layoutPlaces f (bc6hLayout m)).Perm (List.range (bc6hHeaderWidth m f)) := by decide +kernel
  exact htable m hm f (by cases f <;> decide)

/-- Header and indices fill the block (49_packer_bc6h.md R390, R393). -/
theorem bc6h_widths_sum : ∀ m ∈ bc6hModes, ∀ s < bc6hShapes m,
    ((bc6hLayout m).map Seg6.width).sum + (bc6hIndexWidths m s).sum = 128 := by
  decide +kernel

/-- The mode field stands first, whole (30_encoding.md R132). -/
theorem bc6hLayout_mode_first : ∀ m ∈ bc6hModes, ∃ gs, bc6hLayout m = ⟨.m, bc6hCodeWidth m - 1, 0⟩ :: gs := by
  have htable : ∀ m ∈ bc6hModes, (bc6hLayout m).head? = some ⟨.m, bc6hCodeWidth m - 1, 0⟩ := by decide
  exact fun m hm => List.head?_eq_some_iff.1 (htable m hm)

/-- What well-formed means, group by group. -/
theorem Block6.wf_iff {m : Nat} {b : Block6} : b.wf m = true ↔ b.shape < bc6hShapes m ∧
    fitsWidths (bc6hEndWidths m) b.ends = true ∧ fitsWidths (bc6hIndexWidths m b.shape) b.idx = true := by
  simp [Block6.wf, and_assoc]

/-- The values of a well-formed block fit the header fields. -/
theorem headerValue_lt {m : Nat} {b : Block6} (hm : m ∈ bc6hModes) (h : b.wf m = true) (f : Field6) :
    headerValue m b f < 2 ^ bc6hHeaderWidth m f := by
  obtain ⟨hshape, hends, -⟩ := Block6.wf_iff.1 h
  have hcodes : ∀ m ∈ bc6hModes, (bc6hMode m).code < 2 ^ bc6hCodeWidth m := by decide
  have hshapes : ∀ m ∈ bc6hModes, bc6hShapes m = 2 ^ bc6hHeaderWidth m .d := by decide
  cases f with
  | m => exact hcodes m hm
  | d => exact hshapes m hm ▸ hshape
  | _ => exact getD_lt_of_fitsWidths hends _

/-- The pieces of the header, as they are packed (49_packer_bc6h.md R394). -/
def bc6hHeader (m : Nat) (b : Block6) : List (Nat × Nat) :=
  (bc6hLayout m).map fun g => (g.width, headerValue m b g.f / 2 ^ g.lo)

theorem map_fst_bc6hHeader (m : Nat) (b : Block6) : (bc6hHeader m b).map Prod.fst = (bc6hLayout m).map Seg6.width := by
  simp [bc6hHeader]

theorem pack6_eq (m : Nat) (b : Block6) :
    pack6 m b = BitVec.ofNat 128 (packFields (bc6hHeader m b ++ (bc6hIndexWidths m b.shape).zip b.idx)) := rfl

/-- What reading the header pieces gives: the bits of each field that the piece holds. -/
theorem map_mod_bc6hHeader (m : Nat) (b : Block6) : ((bc6hHeader m b).map fun f => f.2 % 2 ^ f.1) =
    (bc6hLayout m).map fun g => bitsOf (headerValue m b g.f) g.lo g.width := by
  simp [bc6hHeader, bitsOf]

/-! ### Packing and unpacking -/

section

variable {m : Nat} {b : Block6} (hm : m ∈ bc6hModes) (h : b.wf m = true)
include hm h

/-- The number of a packed block is that of its fields. -/
theorem toNat_pack6 :
    (pack6 m b).toNat = packFields (bc6hHeader m b ++ (bc6hIndexWidths m b.shape).zip b.idx) := by
  obtain ⟨hshape, -, hidx⟩ := Block6.wf_iff.1 h
  have hwidth : fieldsWidth (bc6hHeader m b ++ (bc6hIndexWidths m b.shape).zip b.idx) = 128 := by
    rw [fieldsWidth, List.map_append, List.sum_append, map_fst_bc6hHeader, map_fst_zip_of_fitsWidths hidx,
      bc6h_widths_sum m hm b.shape hshape]
  rw [pack6_eq, toNat_block_packFields hwidth.le]

theorem getMode6_pack6 : getMode6 (pack6 m b) = some m := by
  obtain ⟨gs, hgs⟩ := bc6hLayout_mode_first m hm
  have hcode : (bc6hMode m).code < 2 ^ bc6hCodeWidth m := headerValue_lt hm h .m
  have hwidth : Seg6.width ⟨.m, bc6hCodeWidth m - 1, 0⟩ = bc6hCodeWidth m := by
    unfold Seg6.width bc6hCodeWidth; split <;> rfl
  rw [getMode6_eq_some_iff hm, toNat_pack6 hm h, bc6hHeader, hgs, List.map_cons, List.cons_append, packFields, hwidth,
    Nat.add_mul_mod_self_left, Nat.mod_mod]
  simpa [headerValue] using Nat.mod_eq_of_lt hcode

/-- Gathering a header field of a packed block gives its value back (30_encoding.md R135). -/
theorem gatherField_pack6 (f : Field6) :
    gatherField f (bc6hLayout m) ((bc6hHeader m b).map fun f => f.2 % 2 ^ f.1) = headerValue m b f := by
  rw [map_mod_bc6hHeader, gatherField_map]
  exact bitSum_of_perm_range (layoutPlaces_perm hm f) (headerValue_lt hm h f)

/-- The endpoint fields, gathered one after another, are the stored ones (49_packer_bc6h.md R391). -/
theorem map_headerValue_endFields :
    (endFields.take ((bc6hMode m).ns * 6)).map (headerValue m b) = b.ends := by
  obtain ⟨-, hends, -⟩ := Block6.wf_iff.1 h
  have hcount : ∀ m ∈ bc6hModes, (endFields.take ((bc6hMode m).ns * 6)).length = (bc6hEndWidths m).length := by decide
  have hvalue : ∀ k (hk : k < endFields.length), headerValue m b endFields[k] = b.ends.getD k 0 := by
    intro k hk
    have hidx : endFields.idxOf endFields[k] = k := List.Nodup.idxOf_getElem (by decide) k hk
    have hend : ∀ f ∈ endFields, f ≠ .m ∧ f ≠ .d := by decide
    obtain ⟨hnotm, hnotd⟩ := hend _ (List.getElem_mem hk)
    simp [headerValue, hnotm, hnotd, hidx]
  have hlen := (hcount m hm).trans (length_of_fitsWidths hends)
  refine List.ext_getElem (by simpa using hlen) fun k hk hk' => ?_
  rw [List.getElem_map, List.getElem_take, hvalue, List.getD_eq_getElem _ _ hk']

/-- Unpacking a packed block gives its fields back (49_packer_bc6h.md R396). -/
theorem unpack6_pack6 : unpack6 m (pack6 m b) = b := by
  obtain ⟨-, -, hidx⟩ := Block6.wf_iff.1 h
  have hread := readFields_packFields_append (bc6hHeader m b) ((bc6hIndexWidths m b.shape).zip b.idx)
  rw [map_fst_bc6hHeader] at hread
  have hshape : headerValue m b .d = b.shape := rfl
  simp only [unpack6, toNat_pack6 hm h, hread, gatherField_pack6 hm h, hshape, map_headerValue_endFields hm h,
    readFields_packFields_zip_last hidx]

/-- A packed block decodes to the row it was packed from. -/
theorem decodeBc6h_pack6 : decodeBc6h (pack6 m b) = bc6hRow m b := by
  rw [decodeBc6h_of_mode hm (getMode6_pack6 hm h), unpack6_pack6 hm h]

end

end Sys2Proof.Machine
end

