-- ==== Sys2Proof/Proofs/DecodeEncode.lean ====
section
/-! SUPPORT. Decoding the bytes of an encoded instruction. -/

namespace Sys2Proof

open Sys2Proof.Machine

/-! ### Bytes -/

/-- The first bytes of an encoding and what follows it. -/
theorem take_toBytes_append (n v : Nat) (rest : List Byte) : (toBytes n v ++ rest).take n = toBytes n v :=
  List.take_left' (Laws.toBytes_length n v)

theorem drop_toBytes_append (n v : Nat) (rest : List Byte) : (toBytes n v ++ rest).drop n = rest :=
  List.drop_left' (Laws.toBytes_length n v)

/-- The word of a number's bytes is the word of the number (20_memory.md R82). -/
theorem ofNat_ofBytes_toBytes {n w : Nat} (hw : w = 8 * n) (x : BitVec w) :
    BitVec.ofNat w (ofBytes (toBytes n x.toNat)) = x := by
  rw [ofBytes_toBytes, ← hw, Nat.mod_eq_of_lt x.isLt, BitVec.ofNat_toNat, BitVec.setWidth_eq]

/-- An encoding's worth of bytes is not truncated, whatever follows. -/
theorem not_length_toBytes_append_lt (n v : Nat) (rest : List Byte) : ¬ (toBytes n v ++ rest).length < n := by
  simp [Laws.toBytes_length]

/-- The bytes of a command word decode to what the word decodes to. -/
theorem decode_cmd_append (w : Word) (rest : List Byte) :
    decode .cmd (toBytes 4 w.toNat ++ rest) = .ok (decodeCmd w, rest) := by
  simp only [decode, Encoding.size, if_neg (not_length_toBytes_append_lt 4 w.toNat rest), take_toBytes_append,
    drop_toBytes_append, ofNat_ofBytes_toBytes (n := 4) rfl w]

/-- The encoding of a format's blocks. -/
def Format.encoding : Format → Encoding
  | .bc7 => .bc7
  | .bc6h => .bc6h

/-- The bytes of a block decode to what the block decodes to under its format. -/
theorem decode_block_append (fmt : Format) (blk : Block) (rest : List Byte) :
    decode fmt.encoding (toBytes 16 blk.toNat ++ rest) = .ok (decodeBlock fmt blk, rest) := by
  cases fmt <;>
    simp only [decode, Format.encoding, Encoding.size, if_neg (not_length_toBytes_append_lt 16 blk.toNat rest),
      take_toBytes_append, drop_toBytes_append, ofNat_ofBytes_toBytes (n := 16) rfl blk, decodeBlock]

/-! ### Instructions -/

/-- Decoding the block of a well-formed block row gives the row back. -/
theorem decodeBlock_encodeBlock {fmt : Format} {i : Instr} (hfmt : i.encoding = fmt.encoding)
    (hwf : i.wf = true) : decodeBlock fmt (encodeBlock i) = i := by
  cases fmt with
  | bc7 =>
    cases i with
    | bc7Mode0 b => exact decodeBc7_pack7 (m := 0) (by decide) hwf
    | bc7Mode1 b => exact decodeBc7_pack7 (m := 1) (by decide) hwf
    | bc7Mode2 b => exact decodeBc7_pack7 (m := 2) (by decide) hwf
    | bc7Mode3 b => exact decodeBc7_pack7 (m := 3) (by decide) hwf
    | bc7Mode4 b => exact decodeBc7_pack7 (m := 4) (by decide) hwf
    | bc7Mode5 b => exact decodeBc7_pack7 (m := 5) (by decide) hwf
    | bc7Mode6 b => exact decodeBc7_pack7 (m := 6) (by decide) hwf
    | bc7Mode7 b => exact decodeBc7_pack7 (m := 7) (by decide) hwf
    | bc7Reserved rest => exact decodeBc7_reserved rest
    | _ => cases hfmt
  | bc6h =>
    cases i with
    | bc6hMode1 b => exact decodeBc6h_pack6 (m := 1) (by decide) hwf
    | bc6hMode2 b => exact decodeBc6h_pack6 (m := 2) (by decide) hwf
    | bc6hMode3 b => exact decodeBc6h_pack6 (m := 3) (by decide) hwf
    | bc6hMode4 b => exact decodeBc6h_pack6 (m := 4) (by decide) hwf
    | bc6hMode5 b => exact decodeBc6h_pack6 (m := 5) (by decide) hwf
    | bc6hMode6 b => exact decodeBc6h_pack6 (m := 6) (by decide) hwf
    | bc6hMode7 b => exact decodeBc6h_pack6 (m := 7) (by decide) hwf
    | bc6hMode8 b => exact decodeBc6h_pack6 (m := 8) (by decide) hwf
    | bc6hMode9 b => exact decodeBc6h_pack6 (m := 9) (by decide) hwf
    | bc6hMode10 b => exact decodeBc6h_pack6 (m := 10) (by decide) hwf
    | bc6hMode11 b => exact decodeBc6h_pack6 (m := 11) (by decide) hwf
    | bc6hMode12 b => exact decodeBc6h_pack6 (m := 12) (by decide) hwf
    | bc6hMode13 b => exact decodeBc6h_pack6 (m := 13) (by decide) hwf
    | bc6hMode14 b => exact decodeBc6h_pack6 (m := 14) (by decide) hwf
    | bc6hReserved13 rest => exact decodeBc6h_reserved rest (c := 0x13) (by decide)
    | bc6hReserved17 rest => exact decodeBc6h_reserved rest (c := 0x17) (by decide)
    | bc6hReserved1B rest => exact decodeBc6h_reserved rest (c := 0x1B) (by decide)
    | bc6hReserved1F rest => exact decodeBc6h_reserved rest (c := 0x1F) (by decide)
    | _ => cases hfmt

/-- The bytes of a block row are those of its block. -/
theorem encode_block {fmt : Format} {i : Instr} (hfmt : i.encoding = fmt.encoding) :
    encode i = toBytes 16 (encodeBlock i).toNat := by
  cases fmt <;> simp [encode, hfmt, Format.encoding]

theorem encode_cmd {i : Instr} (hcmd : i.encoding = .cmd) : encode i = toBytes 4 (encodeCmd i).toNat := by
  simp [encode, hcmd]

/-- Every encoding is the command word's or that of a format. -/
theorem Encoding.cmd_or_format (k : Encoding) : k = .cmd ∨ ∃ fmt : Format, k = fmt.encoding := by
  cases k with
  | cmd => exact .inl rfl
  | bc7 => exact .inr ⟨.bc7, rfl⟩
  | bc6h => exact .inr ⟨.bc6h, rfl⟩

/-- Settles O44: the bytes give the word or the block back, and that decodes to the instruction it was encoded from. -/
theorem decodeOfEncode : Obligations.DecodeOfEncode := by
  intro i rest hwf
  obtain hcmd | ⟨fmt, hfmt⟩ := Encoding.cmd_or_format i.encoding
  · rw [hcmd, encode_cmd hcmd, decode_cmd_append, decodeCmd_encodeCmd hcmd hwf]
  · rw [hfmt, encode_block hfmt, decode_block_append, decodeBlock_encodeBlock hfmt hwf]

end Sys2Proof
end

