-- ==== Sys2Proof/Proofs/ResultWords.lean ====
section
/-! SUPPORT. The words a unit command takes its operands from and gives its result in: reading them as numbers. -/

namespace Sys2Proof.Machine

/-- The lowest field of a word (30_encoding.md R112). -/
theorem fieldOf_zero (w : Word) (n : Nat) : fieldOf w 0 n = w.toNat % 2 ^ n := by
  simp [fieldOf, bitsOf]

/-- A natural number below 2^32 reads back from its word. -/
theorem toNat_wordOf {n : Nat} (h : n < 2 ^ 32) : (wordOf n).toNat = n := Nat.mod_eq_of_lt h

/-- An integer of 32 bits reads back, as two's complement, from its word (30_encoding.md R112). -/
theorem toInt_wordOfInt {v : Int} (hlo : -2 ^ 31 ≤ v) (hhi : v < 2 ^ 31) : (wordOfInt v).toInt = v := by
  rw [wordOfInt, BitVec.toInt_ofInt]
  exact Int.bmod_eq_of_le (by omega) (by omega)

end Sys2Proof.Machine
end

