-- ==== Sys2Proof/Proofs/HalfFloat.lean ====
section
/-! SUPPORT. The half-float converter: what it answers on each half of the patterns (bit 15 clear or set) and of the
integers (non-negative or negative), and the two commands. -/

namespace Sys2Proof.Machine

/-! ### From a half pattern to a working value -/

/-- The magnitude bits, clamped (40_half_float.md R160). -/
theorem halfMagnitude_eq (h : Nat) : halfMagnitude h = ((min (h % 2 ^ 15) 31743 : Nat) : Int) := by
  simp [halfMagnitude, bitsOf, f16Max]

/-- Both formats at once: they differ in what a set bit 15 makes of the magnitude (40_half_float.md R161, R162). -/
theorem h2wValue_eq (signed : Bool) (h : Nat) : h2wValue signed h =
    if bitsOf h 15 1 = 1 then if signed then -halfMagnitude h else 0 else halfMagnitude h := by
  cases signed <;> rfl

/-- A pattern with bit 15 clear is its clamped magnitude under both formats (40_half_float.md R161, R162). -/
theorem h2wValue_of_lt (signed : Bool) {h : Nat} (hlt : h < 2 ^ 15) :
    h2wValue signed h = ((min h 31743 : Nat) : Int) := by
  have hsign : bitsOf h 15 1 ≠ 1 := by unfold bitsOf; omega
  have hmag : h % 2 ^ 15 = h := Nat.mod_eq_of_lt hlt
  rw [h2wValue_eq, if_neg hsign, halfMagnitude_eq, hmag]

/-- A pattern with bit 15 set is 0 under the unsigned format and negated under the signed one (40_half_float.md R161,
R162). -/
theorem h2wValue_of_ge (signed : Bool) {h : Nat} (hge : 2 ^ 15 ≤ h) (hlt : h < 2 ^ 16) :
    h2wValue signed h = if signed then -((min (h - 2 ^ 15) 31743 : Nat) : Int) else 0 := by
  have hsign : bitsOf h 15 1 = 1 := by unfold bitsOf; omega
  have hmag : h % 2 ^ 15 = h - 2 ^ 15 := by omega
  rw [h2wValue_eq, if_pos hsign, halfMagnitude_eq, hmag]

/-- A working value lies in the working range (40_half_float.md R160). -/
theorem h2wValue_range (signed : Bool) {h : Nat} (hlt : h < 2 ^ 16) :
    -31743 ≤ h2wValue signed h ∧ h2wValue signed h ≤ 31743 := by
  rcases Nat.lt_or_ge h (2 ^ 15) with hclear | hset
  · rw [h2wValue_of_lt signed hclear]; omega
  · rw [h2wValue_of_ge signed hset hlt]; split <;> omega

/-! ### From an integer to a half pattern -/

theorem clampInt_eq {lo hi : Int} (x : Int) (h : lo ≤ hi) : clampInt x lo hi = max lo (min hi x) := by
  unfold clampInt
  split_ifs <;> omega

theorem w2hU_eq (v : Int) : w2hU v = min v.toNat 31743 := by
  rw [w2hU, clampInt_eq v (by decide), f16Max]
  omega

theorem w2hS_eq (v : Int) : w2hS v = if v < 0 then 2 ^ 15 + min v.natAbs 31743 else min v.toNat 31743 := by
  rw [w2hS, clampInt_eq v (by decide), f16Max]
  split_ifs <;> omega

/-- A non-negative integer gives its clamped value under both formats (40_half_float.md R163). -/
theorem w2hValue_of_nonneg (signed : Bool) {v : Int} (hv : 0 ≤ v) : w2hValue signed v = min v.toNat 31743 := by
  cases signed with
  | false => exact w2hU_eq v
  | true => exact (w2hS_eq v).trans (if_neg (not_lt.2 hv))

/-- A negative integer gives 0 under the unsigned format, and under the signed one the sign bit and the clamped
magnitude (40_half_float.md R163). -/
theorem w2hValue_of_neg (signed : Bool) {v : Int} (hv : v < 0) :
    w2hValue signed v = if signed then 2 ^ 15 + min v.natAbs 31743 else 0 := by
  cases signed with
  | false => exact (w2hU_eq v).trans (by rw [if_neg Bool.false_ne_true]; omega)
  | true => exact (w2hS_eq v).trans (if_pos hv)

/-- No infinity, NaN or -0 (40_half_float.md R163). -/
theorem w2hValue_finite (signed : Bool) (v : Int) :
    w2hValue signed v % 2 ^ 15 ≤ 0x7BFF ∧ w2hValue signed v ≠ 0x8000 ∧ w2hValue signed v < 2 ^ 16 := by
  rcases lt_or_ge v 0 with hv | hv
  · rw [w2hValue_of_neg signed hv]; split <;> omega
  · rw [w2hValue_of_nonneg signed hv]; omega

/-! ### The commands -/

theorem exec_h2w (s : State) :
    exec .h2w s = .next (s.completeRes (wordOfInt (h2wValue (cfgSigned s.inputs.cfg) (opHalf s.inputs)))) := rfl

theorem exec_w2h (s : State) :
    exec .w2h s = .next (s.completeRes (wordOf (w2hValue (cfgSigned s.inputs.cfg) s.inputs.opa.toInt))) := rfl

/-- Settles O7: bit 15 of the pattern selects the case, and the working value fits RES. -/
theorem halfToWorkingValue : Obligations.HalfToWorkingValue := by
  refine fun s => ⟨_, exec_h2w s, onlyResChanged_completeRes s _, ?_⟩
  rintro h rfl
  have hlt : s.inputs.opa.toNat % 2 ^ 16 < 2 ^ 16 := Nat.mod_lt _ (by decide)
  obtain ⟨hlo, hhi⟩ := h2wValue_range (cfgSigned s.inputs.cfg) hlt
  rw [State.completeRes_res, opHalf, fieldOf_zero, toInt_wordOfInt (by omega) (by omega)]
  split
  next hclear => exact h2wValue_of_lt _ hclear
  next hset => exact h2wValue_of_ge _ (Nat.le_of_not_lt hset) hlt

/-- Settles O8: the sign of the operand selects the case, and the pattern fits RES. -/
theorem workingValueToHalf : Obligations.WorkingValueToHalf := by
  refine fun s => ⟨_, exec_w2h s, onlyResChanged_completeRes s _, ?_⟩
  have hfinite := w2hValue_finite (cfgSigned s.inputs.cfg) s.inputs.opa.toInt
  rw [State.completeRes_res, toNat_wordOf (by omega)]
  refine ⟨fun hunsigned => ?_, fun _ hnonneg => ?_, fun hsigned hneg => ?_, hfinite⟩
  · rw [hunsigned]
    rcases lt_or_ge s.inputs.opa.toInt 0 with hv | hv
    · rw [w2hValue_of_neg false hv, if_neg Bool.false_ne_true]; omega
    · rw [w2hValue_of_nonneg false hv]; omega
  · rw [w2hValue_of_nonneg _ hnonneg]; omega
  · rw [hsigned, w2hValue_of_neg true hneg, if_pos rfl]; omega

/-! ### The round trips -/

/-- Back from the pattern of an integer: the integer, clamped to the format's working range (40_half_float.md R166). -/
theorem h2wValue_w2hValue (signed : Bool) (v : Int) :
    h2wValue signed (w2hValue signed v) = max (if signed then -31743 else 0) (min 31743 v) := by
  rcases lt_or_ge v 0 with hv | hv
  · rw [w2hValue_of_neg signed hv]
    cases signed with
    | false => rw [if_neg Bool.false_ne_true, h2wValue_of_lt false (by decide), if_neg Bool.false_ne_true]; omega
    | true => rw [if_pos rfl, h2wValue_of_ge true (by omega) (by omega), if_pos rfl, if_pos rfl]; omega
  · rw [w2hValue_of_nonneg signed hv, h2wValue_of_lt signed (by omega)]
    split <;> omega

/-- Back from the working value of a finite pattern with bit 15 clear (40_half_float.md R166). -/
theorem w2hValue_h2wValue_of_le (signed : Bool) {h : Nat} (hle : h ≤ 0x7BFF) :
    w2hValue signed (h2wValue signed h) = h := by
  rw [h2wValue_of_lt signed (by omega), w2hValue_of_nonneg signed (by omega)]
  omega

/-- Back from the working value of a finite pattern with bit 15 set, other than -0 (40_half_float.md R166). -/
theorem w2hValue_h2wValue_of_neg {h : Nat} (hgt : 0x8000 < h) (hle : h ≤ 0xFBFF) :
    w2hValue true (h2wValue true h) = h := by
  rw [h2wValue_of_ge true (by omega) (by omega), if_pos rfl, w2hValue_of_neg true (by omega), if_pos rfl]
  omega

/-- Settles O37: the round trips, format by format. -/
theorem halfRoundTrip : Obligations.HalfRoundTrip :=
  ⟨fun v => ⟨h2wValue_w2hValue false v, h2wValue_w2hValue true v⟩,
    fun signed _ hle => w2hValue_h2wValue_of_le signed hle, fun _ hgt hle => w2hValue_h2wValue_of_neg hgt hle⟩

end Sys2Proof.Machine
end

/-! SUPPORT. One step with a request to the reference decoder. -/

namespace Sys2Proof.Machine

/-- A request to the reference decoder is no access to CORE, so it always has a step, on an idle machine or while a
command runs that is not at its completion step: the decoded row's meaning (41_tile.md R187, log 7). -/
theorem step_refDecode {s : State} {fmt : Format} {blk : Block} {es : List HostEvent}
    (hhost : s.host = .refDecode fmt blk :: es) (hreset : s.resetAsserted = false)
    (hleft : ∀ r, s.seq = .busy r → r.left ≠ 0) :
    step s = exec (decodeBlock fmt blk) (s.taken es).tick :=
  step_host hhost rfl hreset hleft

theorem State.tick_of_busy {s : State} {r : Running} (h : s.seq = .busy r) :
    s.tick = { s with seq := .busy { r with left := r.left - 1 } } := by
  rw [s.tick_eq, s.tick_busy h]

/-- Settles O50: the step executes the row after one step of time, which passes only for a running command. -/
theorem stepRunsDecodedBlock : Obligations.StepRunsDecodedBlock := by
  intro s fmt blk es hhost hreset
  refine ⟨fun hidle => ?_, fun r hbusy hleft => ?_⟩
  · have hrunning : ∀ r, s.seq = .busy r → r.left ≠ 0 := fun r hr => nomatch hidle.symm.trans hr
    have htick : (s.taken es).tick = s.taken es := (s.taken es).tick_idle hidle
    exact (step_refDecode hhost hreset hrunning).trans (congrArg _ htick)
  · have hrunning : ∀ r', s.seq = .busy r' → r'.left ≠ 0 := fun r' hr => by
      cases hbusy.symm.trans hr; exact hleft
    have htick : (s.taken es).tick = { s.taken es with seq := .busy { r with left := r.left - 1 } } :=
      State.tick_of_busy hbusy
    exact (step_refDecode hhost hreset hrunning).trans (congrArg _ htick)

end Sys2Proof.Machine

/-! SUPPORT. Result words cut into fields of one width (30_encoding.md R112): the fields are the word's digits to the
base two to the width, the first field lowest. -/

namespace Sys2Proof.Machine

/-- Packing fields of one width that their values fit writes the values as digits. -/
theorem packFields_eq_ofDigits {w : Nat} {l : List Nat} (hl : ∀ a ∈ l, a < 2 ^ w) :
    packFields (l.map fun a => (w, a)) = Nat.ofDigits (2 ^ w) l := by
  induction l with
  | nil => rfl
  | cons a l ih =>
    obtain ⟨ha, hl⟩ := List.forall_mem_cons.1 hl
    rw [List.map_cons, packFields, Nat.mod_eq_of_lt ha, ih hl, Nat.ofDigits_cons]

/-- Digit `k` of a number is the entry `k` of its digits, zero above them. -/
theorem ofDigits_digit {b : Nat} {l : List Nat} (hb : 0 < b) (hl : ∀ a ∈ l, a < b) (k : Nat) :
    Nat.ofDigits b l / b ^ k % b = l.getD k 0 := by
  induction l generalizing k with
  | nil => simp
  | cons a l ih =>
    obtain ⟨ha, htail⟩ := List.forall_mem_cons.1 hl
    cases k with
    | zero => simp [Nat.ofDigits_cons, Nat.mod_eq_of_lt ha]
    | succ k =>
      rw [pow_succ', ← Nat.div_div_eq_div_mul, Nat.ofDigits_div_eq_ofDigits_tail hb _ hl, List.tail_cons, ih htail,
        List.getD_cons_succ]

/-- Field `k` of a word that holds fields of `w` bits. -/
theorem wordOf_ofDigits_field {w : Nat} {l : List Nat} (hw : 0 < w) (hlen : w * l.length ≤ 32)
    (hl : ∀ a ∈ l, a < 2 ^ w) (k : Nat) :
    (wordOf (Nat.ofDigits (2 ^ w) l)).toNat / 2 ^ (w * k) % 2 ^ w = l.getD k 0 := by
  have hlt : Nat.ofDigits (2 ^ w) l < 2 ^ 32 := calc
    Nat.ofDigits (2 ^ w) l < (2 ^ w) ^ l.length :=
      Nat.ofDigits_lt_base_pow_length (Nat.one_lt_two_pow hw.ne') hl
    _ = 2 ^ (w * l.length) := (pow_mul 2 w l.length).symm
    _ ≤ 2 ^ 32 := Nat.pow_le_pow_right (by decide) hlen
  rw [toNat_wordOf hlt, pow_mul, ofDigits_digit (Nat.two_pow_pos w) hl]

end Sys2Proof.Machine

/-! SUPPORT. The partition and anchor tables: what every entry satisfies (42_partition_lut.md R204), and the two
commands that read them. -/

namespace Sys2Proof.Machine

/-! ### The tables

Each lemma checks the tables entry by entry, for the three region counts and the 64 shapes. -/

/-- Every pixel is in one of the shape's regions. -/
theorem region_lt : ∀ ns < 4, 0 < ns → ∀ s < 64, ∀ i < 16, region ns s i < ns := by decide +kernel

/-- Every anchor is a pixel of the tile. -/
theorem anchors_lt : ∀ ns < 4, ∀ s < 64, ∀ a ∈ anchors ns s, a < 16 := by decide +kernel

/-- The anchors, in order, lie in the regions 0, 1, ... (42_partition_lut.md R204 (b)). -/
theorem map_region_anchors : ∀ ns < 4, 0 < ns → ∀ s < 64, (anchors ns s).map (region ns s) = List.range ns := by
  decide +kernel

/-- The first region's anchor is pixel 0 (42_partition_lut.md R202). -/
theorem anchors_head (ns s : Nat) : (anchors ns s).getD 0 0 = 0 := by
  unfold anchors
  split_ifs <;> rfl

section

variable {ns s : Nat} (hns : ns < 4) (hpos : 0 < ns) (hs : s < 64)
include hns hpos hs

theorem anchors_length : (anchors ns s).length = ns := by
  simpa using congrArg List.length (map_region_anchors ns hns hpos s hs)

/-- Anchors of different regions are different pixels. -/
theorem anchors_nodup : (anchors ns s).Nodup :=
  List.Nodup.of_map (region ns s) (map_region_anchors ns hns hpos s hs ▸ List.nodup_range)

theorem anchor_in_region {k : Nat} (hk : k < ns) :
    region ns s ((anchors ns s).getD k 0) = k ∧ (anchors ns s).getD k 0 < 16 := by
  have hlen : k < (anchors ns s).length := (anchors_length hns hpos hs).symm ▸ hk
  rw [List.getD_eq_getElem _ _ hlen]
  refine ⟨?_, anchors_lt ns hns s hs _ (List.getElem_mem hlen)⟩
  have hmap := List.getElem_of_eq (map_region_anchors ns hns hpos s hs) (i := k) (by simpa using hlen)
  rwa [List.getElem_map, List.getElem_range] at hmap

end

/-- Settles O38: all but the bound on regions follows from the anchors' regions: they are different, none is missing,
and the first anchor is pixel 0. -/
theorem partitionTableInvariants : Obligations.PartitionTableInvariants := by
  intro ns s hlegal
  have hns : ns < 4 := by omega
  have hpos : 0 < ns := by omega
  have hs : s < 64 := by omega
  have hanchor := fun k (hk : k < ns) => anchor_in_region hns hpos hs hk
  have hzero := (hanchor 0 hpos).1
  rw [anchors_head] at hzero
  exact ⟨hzero, anchors_length hns hpos hs, anchors_nodup hns hpos hs, hanchor,
    fun k hk => ⟨_, (hanchor k hk).2, (hanchor k hk).1⟩, region_lt ns hns hpos s hs⟩

/-! ### The commands -/

/-- The shapes SHAPE and ANCHOR answer (42_partition_lut.md R206). -/
theorem shapeInTable_iff {ns s : Nat} : shapeInTable ns s = true ↔ (ns = 1 ∧ s = 0) ∨ (2 ≤ ns ∧ s ≤ 63) := by
  unfold shapeInTable
  split_ifs with hnone hone
  · simp [hnone]
  · simp [hone]
  · rw [decide_eq_true_iff]; omega

/-- A command with the operands and errors of 42_partition_lut.md R206, R207 that answers the word `word ns s`: its two
ends. -/
theorem tableCommand_ends {s : State} {i : Instr} {word : Nat → Nat → Nat} {ns sh : Nat}
    (hexec : exec i s = unitResult s
      (if shapeInTable (opRegions s.inputs) (opbU32 s.inputs)
        then .ok (wordOf (word (opRegions s.inputs) (opbU32 s.inputs))) else .error .badShape))
    (hns : ns = s.inputs.opa.toNat % 4) (hsh : sh = s.inputs.opb.toNat) :
    (ns = 0 ∨ (ns = 1 ∧ sh ≠ 0) ∨ (2 ≤ ns ∧ 63 < sh) → ∃ t, exec i s = .next t ∧ OnlyErrorRaised s t .badShape) ∧
    ((ns = 1 ∧ sh = 0) ∨ (2 ≤ ns ∧ sh ≤ 63) →
      ∃ t, exec i s = .next t ∧ OnlyResChanged s t ∧ t.res = wordOf (word ns sh)) := by
  have hregions : opRegions s.inputs = ns := (fieldOf_zero s.inputs.opa 2).trans hns.symm
  have hshape : opbU32 s.inputs = sh := hsh.symm
  rw [hregions, hshape] at hexec
  refine ⟨fun hbad => ?_, fun hlegal => ?_⟩
  · have hout : ¬ shapeInTable ns sh = true := by rw [shapeInTable_iff]; omega
    rw [if_neg hout] at hexec
    exact ⟨_, hexec, onlyErrorRaised_raise s .badShape⟩
  · rw [if_pos (shapeInTable_iff.2 hlegal)] at hexec
    exact ⟨_, hexec, onlyResChanged_completeRes s _, s.completeRes_res _⟩

/-- The word of SHAPE holds the regions as digits. -/
theorem shapeWord_eq_ofDigits (ns s : Nat) :
    shapeWord ns s = Nat.ofDigits (2 ^ 2) (pixels.map (region ns s)) := by
  have hterms : (pixels.map (region ns s)).mapIdx (fun i a => a * (2 ^ 2) ^ i)
      = pixels.map fun i => region ns s i * 2 ^ (2 * i) := by
    refine List.ext_getElem (by simp) fun i _ _ => ?_
    simp [pixels, pow_mul]
  rw [Nat.ofDigits_eq_sum_mapIdx, hterms, shapeWord]

/-- One region: every pixel is in region 0. -/
theorem shapeWord_one (s : Nat) : shapeWord 1 s = 0 := by simp [shapeWord, region]

/-- Settles O16: a region is below 4, so each pixel's two bits hold its own. -/
theorem shapeCommand : Obligations.ShapeCommand := by
  intro s ns sh hns hsh
  obtain ⟨herror, hok⟩ := tableCommand_ends (i := .shape) (word := shapeWord) rfl hns hsh
  refine ⟨herror, fun hlegal => ?_⟩
  obtain ⟨t, hexec, honly, hres⟩ := hok hlegal
  refine ⟨t, hexec, honly, fun hone => ?_, fun i hi => ?_⟩
  · rw [hres, hone, shapeWord_one]; rfl
  · have hlt : ∀ r ∈ pixels.map (region ns sh), r < 2 ^ 2 := List.forall_mem_map.2 fun j hj =>
      (region_lt ns (by omega) (by omega) sh (by omega) j (List.mem_range.1 hj)).trans (by omega)
    rw [hres, shapeWord_eq_ofDigits]
    exact (wordOf_ofDigits_field (by decide) (by simp [pixels]) hlt i).trans (by simp [pixels, hi])

/-- Settles O17: an anchor is below 16, so each region's nibble holds its own; above the regions no digit is left. -/
theorem anchorCommand : Obligations.AnchorCommand := by
  intro s ns sh hns hsh
  obtain ⟨herror, hok⟩ := tableCommand_ends (i := .anchor) (word := anchorWord) rfl hns hsh
  refine ⟨herror, fun hlegal => ?_⟩
  obtain ⟨t, hexec, honly, hres⟩ := hok hlegal
  have hlt : ∀ a ∈ anchors ns sh, a < 2 ^ 4 := anchors_lt ns (by omega) sh (by omega)
  have hlen : (anchors ns sh).length = ns := anchors_length (by omega) (by omega) (by omega)
  refine ⟨t, hexec, honly, fun k _ => ?_⟩
  rw [hres, anchorWord, packFields_eq_ofDigits hlt]
  exact wordOf_ofDigits_field (by decide) (by omega) hlt k

end Sys2Proof.Machine

/-! SUPPORT. The reference fitter where its answer has a closed form: no points, copies of one point, one channel. -/

namespace Sys2Proof.Machine

/-! ### Points and weights as rationals

`l.map fun x => (x : Rat)` over integers is read by Lean as the identity mapped over the list coerced element by
element; these lemmas give it the plain form. -/

theorem map_coe_int (p : List Int) : (p.map fun x => (x : Rat)) = p.map Int.cast := by
  simp [← List.map_eq_flatMap]

theorem map_coe_nat (wts : List Nat) : (wts.map fun w => (w : Rat)) = wts.map Nat.cast := by
  simp [← List.map_eq_flatMap]

theorem fitWeights_eq (wts : List Nat) :
    fitWeights wts = if wts.sum = 0 then List.replicate wts.length 1 else wts.map Nat.cast := by
  rw [fitWeights, map_coe_nat, List.map_const']

theorem fitWeights_length (wts : List Nat) : (fitWeights wts).length = wts.length := by
  rw [fitWeights_eq]
  split <;> simp

/-- Weights that sum to 0 count as 1, so the fit never divides by 0 (43_endpoint_fitter.md R221, R223). -/
theorem fitWeights_sum_pos {wts : List Nat} (hne : wts ≠ []) : 0 < (fitWeights wts).sum := by
  rw [fitWeights_eq]
  split
  · simpa using List.length_pos_iff.2 hne
  · next hsum => rw [← Nat.cast_list_sum, Nat.cast_pos]; exact Nat.pos_of_ne_zero hsum

theorem fitWeights_pos {wts : List Nat} (h : (∀ w ∈ wts, 0 < w) ∨ wts.sum = 0) : ∀ w ∈ fitWeights wts, 0 < w := by
  rw [fitWeights_eq]
  split
  · simp
  · next hsum => simpa using h.resolve_right hsum

/-! ### The two ends of the fit -/

section

variable {n : Nat} {pts : List (List Int)} {q : List (List Rat)} {wts : List Nat} {c : List Rat} (iters : Nat)
  (hne : pts ≠ []) (hq : pts.map (List.map Int.cast) = q) (hc : centroid n q (fitWeights wts) = c)
include hne hq hc

/-- Without spread the fit answers the centroid (43_endpoint_fitter.md R225). -/
theorem fit_of_covariance_zero (hflat : ∀ row ∈ covariance n q (fitWeights wts) c, ∀ x ∈ row, x = 0) :
    fit iters n pts wts = (c, c) := by
  simp only [fit, map_coe_int, hq, hc]
  rw [if_neg (by simpa using hne), if_pos (by simpa using hflat)]

/-- With some spread it answers the projections on the axis of the power iteration (43_endpoint_fitter.md R226 to
R228). -/
theorem fit_of_covariance_ne_zero {m : List (List Rat)} (hm : covariance n q (fitWeights wts) c = m)
    {row : List Rat} (hrow : row ∈ m) {x : Rat} (hx : x ∈ row) (hx0 : x ≠ 0) :
    fit iters n pts wts = project n q c (powerSteps m iters (startVector m)) := by
  have hspread : ¬ ∀ row ∈ m, ∀ x ∈ row, x = 0 := fun hflat => hx0 (hflat row hrow x hx)
  simp only [fit, map_coe_int, hq, hc, hm]
  rw [if_neg (by simpa using hne), if_neg (by simpa using hspread)]

end

/-! ### Copies of one point -/

/-- A weighted sum over copies of one point. -/
theorem zipWith_replicate_eq_map {α β γ : Type} (f : α → β → γ) (w : List α) (b : β) :
    List.zipWith f w (List.replicate w.length b) = w.map fun a => f a b := by
  induction w with
  | nil => rfl
  | cons a w ih => simp [List.replicate_succ, ih]

theorem map_chan_range (p : List Rat) : (List.range p.length).map (chan p) = p :=
  List.ext_getElem (by simp) fun i _ hi => by simp [chan, hi]

/-- The centroid of copies of one point is that point. -/
theorem centroid_replicate {w : List Rat} (hw : 0 < w.sum) (p : List Rat) :
    centroid p.length (List.replicate w.length p) w = p := by
  have hmean : ∀ a, (List.zipWith (fun wi q => wi * chan q a) w (List.replicate w.length p)).sum / w.sum = chan p a :=
    fun a => by
      rw [zipWith_replicate_eq_map, List.sum_map_mul_right, List.map_id', mul_div_cancel_left₀ _ hw.ne']
  simp only [centroid, hmean, map_chan_range]

/-- Copies of one point have no spread around it. -/
theorem covariance_replicate (n : Nat) (w p : List Rat) :
    ∀ row ∈ covariance n (List.replicate w.length p) w p, ∀ x ∈ row, x = 0 := by
  simp [covariance, zipWith_replicate_eq_map]

/-- Settles O34: no points by the fit's first case; copies of one point have it as centroid and no spread. -/
theorem fitDegenerateRegion : Obligations.FitDegenerateRegion := by
  refine ⟨fun _ _ _ => rfl, fun iters n k p wts hp hk hlen => ?_⟩
  have hsum : 0 < (fitWeights wts).sum := fitWeights_sum_pos (List.ne_nil_of_length_pos (by omega))
  have hcopies : (List.replicate k p).map (List.map Int.cast)
      = List.replicate (fitWeights wts).length (p.map (Int.cast : Int → Rat)) := by
    rw [List.map_replicate, fitWeights_length, hlen]
  have hcentroid : centroid n (List.replicate (fitWeights wts).length (p.map (Int.cast : Int → Rat))) (fitWeights wts)
      = p.map Int.cast := by
    simpa [hp] using centroid_replicate hsum (p.map Int.cast)
  rw [map_coe_int]
  exact fit_of_covariance_zero iters (by simp; omega) hcopies hcentroid (covariance_replicate _ _ _)

/-! ### One channel: the spread -/

/-- The one entry of the covariance matrix of one channel, around `μ`. -/
def spread (w : List Rat) (vals : List Int) (μ : Rat) : Rat :=
  (List.zipWith (fun wi (v : Int) => wi * ((v : Rat) - μ) * ((v : Rat) - μ)) w vals).sum

theorem covariance_one (w : List Rat) (vals : List Int) (μ : Rat) :
    covariance 1 (vals.map fun v : Int => [(v : Rat)]) w [μ] = [[spread w vals μ]] := by
  simp [covariance, spread, chan, List.zipWith_map_right]

theorem centroid_one (pts : List (List Rat)) (w : List Rat) : ∃ μ, centroid 1 pts w = [μ] :=
  List.length_eq_one_iff.1 (centroid_length 1 pts w)

section

variable {w : List Rat} (hw : ∀ x ∈ w, 0 < x) (vals : List Int) (μ : Rat)
include hw

theorem spread_terms_nonneg :
    ∀ x ∈ List.zipWith (fun wi (v : Int) => wi * ((v : Rat) - μ) * ((v : Rat) - μ)) w vals, 0 ≤ x := by
  intro x hx
  obtain ⟨i, hi, rfl⟩ := List.mem_iff_getElem.1 hx
  rw [List.getElem_zipWith, mul_assoc]
  exact mul_nonneg (hw _ (List.getElem_mem _)).le (mul_self_nonneg _)

theorem spread_nonneg : 0 ≤ spread w vals μ := List.sum_nonneg (spread_terms_nonneg hw vals μ)

/-- With positive weights only equal values have no spread. -/
theorem eq_of_spread_zero {vals : List Int} {μ : Rat} (hlen : w.length = vals.length) (h0 : spread w vals μ = 0) :
    ∀ v ∈ vals, (v : Rat) = μ := by
  intro v hv
  obtain ⟨i, hi, rfl⟩ := List.mem_iff_getElem.1 hv
  have hterm := List.all_zero_of_le_zero_le_of_sum_eq_zero (spread_terms_nonneg hw vals μ) h0
    (List.getElem_mem (n := i) (by simpa [hlen] using hi))
  have hwi : w[i] ≠ 0 := (hw _ (List.getElem_mem (by omega))).ne'
  rw [List.getElem_zipWith] at hterm
  simpa [hwi, sub_eq_zero] using hterm

end

/-! ### One channel: the axis -/

theorem startVector_one (row : List Rat) : startVector [row] = row := rfl

/-- A step of the power iteration scales its one component to 1. -/
theorem powerStep_one {m x : Rat} (hm : 0 < m) (hx : 0 < x) : powerStep [[m]] [x] = [1] := by
  simp [powerStep, argMaxRat, argFirst, argFirstFrom, dot, chan, hm.ne', hx.ne']

/-- The axis of one channel keeps its direction, however many steps it takes. -/
theorem powerSteps_one {m : Rat} (hm : 0 < m) (iters : Nat) {x : Rat} (hx : 0 < x) :
    ∃ y, 0 < y ∧ powerSteps [[m]] iters [x] = [y] := by
  induction iters generalizing x with
  | zero => exact ⟨x, hx, rfl⟩
  | succ iters ih => rw [powerSteps, powerStep_one hm hx]; exact ih one_pos

/-! ### One channel: the endpoints -/

theorem getD_argFirst_isLeast {α : Type} [LinearOrder α] (better : α → α → Bool)
    (hb : ∀ a b, better a b = true ↔ a < b) {l : List α} (hl : l ≠ []) (d : α) :
    IsLeast {x | x ∈ l} (l.getD (argFirst better l) d) := by
  obtain ⟨hlt, hmin⟩ := argFirst_spec better hb l hl
  rw [List.getD_eq_getElem _ _ hlt]
  refine ⟨List.getElem_mem hlt, fun x hx => ?_⟩
  obtain ⟨i, hi, rfl⟩ := List.mem_iff_getElem.1 hx
  exact (hmin i hi).1

theorem minRat_isLeast {l : List Rat} (hl : l ≠ []) : IsLeast {x | x ∈ l} (minRat l) :=
  getD_argFirst_isLeast _ (by simp) hl 0

/-- The greatest is the least of the opposite order. -/
theorem maxRat_isGreatest {l : List Rat} (hl : l ≠ []) : IsGreatest {x | x ∈ l} (maxRat l) :=
  have hbetter (a b : Rat) : decide (b < a) = true ↔ b < a := decide_eq_true_iff
  getD_argFirst_isLeast (α := Ratᵒᵈ) _ hbetter hl (0 : Rat)

theorem minRat_map {f : Int → Rat} (hf : Monotone f) {vals : List Int} {lo : Int}
    (hlo : IsLeast {v | v ∈ vals} lo) : minRat (vals.map f) = f lo := by
  refine (minRat_isLeast (by simpa using List.ne_nil_of_mem hlo.1)).unique ?_
  simpa [Set.image] using hf.map_isLeast hlo

theorem maxRat_map {f : Int → Rat} (hf : Monotone f) {vals : List Int} {hi : Int}
    (hhi : IsGreatest {v | v ∈ vals} hi) : maxRat (vals.map f) = f hi := by
  refine (maxRat_isGreatest (by simpa using List.ne_nil_of_mem hhi.1)).unique ?_
  simpa [Set.image] using hf.map_isGreatest hhi

/-- Projecting one channel on a positive axis gives back its extreme values, wherever the centroid is
(43_endpoint_fitter.md R228). -/
theorem project_one {vals : List Int} {lo hi : Int} (hlo : IsLeast {v | v ∈ vals} lo)
    (hhi : IsGreatest {v | v ∈ vals} hi) (μ : Rat) {y : Rat} (hy : 0 < y) :
    project 1 (vals.map fun v : Int => [(v : Rat)]) [μ] [y] = ([(lo : Rat)], [(hi : Rat)]) := by
  have hmono : Monotone fun v : Int => ((v : Rat) - μ) * y := fun a b hab =>
    mul_le_mul_of_nonneg_right (sub_le_sub_right (Int.cast_le.2 hab) μ) hy.le
  have hback : ∀ v : Int, μ + ((v : Rat) - μ) * y / (y * y) * y = v := fun v => by field_simp; ring
  simp [project, chan, dot, Function.comp_def, minRat_map hmono hlo, maxRat_map hmono hhi, hback]

/-- Settles O35: without spread every value is the centroid, and otherwise the axis is positive. -/
theorem fitScalarExtremes : Obligations.FitScalarExtremes := by
  intro iters vals wts hne hlen hwts
  have hmem : ∃ v, v ∈ vals := List.exists_mem_of_ne_nil _ hne
  obtain ⟨lo, hlo, hleast⟩ := Set.exists_min_image {v | v ∈ vals} id vals.finite_toSet hmem
  obtain ⟨hi, hhi, hgreatest⟩ := Set.exists_max_image {v | v ∈ vals} id vals.finite_toSet hmem
  refine ⟨lo, hi, hlo, hhi, fun v hv => ⟨hleast v hv, hgreatest v hv⟩, ?_⟩
  have hpos := fitWeights_pos hwts
  have hpts : (vals.map fun v => [v]) ≠ [] := by simpa using hne
  have hq : (vals.map fun v => [v]).map (List.map Int.cast) = vals.map fun v : Int => [(v : Rat)] := by simp
  obtain ⟨μ, hμ⟩ := centroid_one (vals.map fun v : Int => [(v : Rat)]) (fitWeights wts)
  have hcov := covariance_one (fitWeights wts) vals μ
  rcases (spread_nonneg hpos vals μ).eq_or_lt with h0 | hspread
  · have hall := eq_of_spread_zero hpos (by rw [fitWeights_length, hlen]) h0.symm
    rw [hall lo hlo, hall hi hhi]
    exact fit_of_covariance_zero iters hpts hq hμ (by simp [hcov, ← h0])
  · obtain ⟨y, hy, haxis⟩ := powerSteps_one hspread iters hspread
    rw [fit_of_covariance_ne_zero iters hpts hq hμ hcov (.head _) (.head _) hspread.ne', startVector_one, haxis]
    exact project_one ⟨hlo, hleast⟩ ⟨hhi, hgreatest⟩ μ hy

end Sys2Proof.Machine

/-! SUPPORT. The quantizer (44_quantizer.md): what it answers on integers, that its answers fit RES, and the commands. -/

namespace Sys2Proof.Machine

/-! ### The two ends of a unit command -/

section

variable {s : State} {i : Instr} {x : Except ErrCode Word} (hexec : exec i s = unitResult s x)
include hexec

theorem exec_of_error {e : ErrCode} (hx : x = .error e) : ∃ t, exec i s = .next t ∧ OnlyErrorRaised s t e := by
  subst hx
  exact ⟨_, hexec, onlyErrorRaised_raise s e⟩

theorem exec_of_ok {v : Word} (hx : x = .ok v) : ∃ t, exec i s = .next t ∧ OnlyResChanged s t ∧ t.res = v := by
  subst hx
  exact ⟨_, hexec, onlyResChanged_completeRes s v, s.completeRes_res v⟩

end

theorem contains_bc6hPrecs {p : Nat} : bc6hPrecs.contains p = true ↔ p ∈ bc6hPrecs := List.contains_iff_mem

/-- The legal precisions are at most 12, or 16 (44_quantizer.md R245). -/
theorem bc6hPrecs_le_or_eq : ∀ p ∈ bc6hPrecs, p ≤ 12 ∨ p = 16 := by decide

theorem le_sixteen_of_legal {p : Nat} (hlegal : p ∈ bc6hPrecs) : p ≤ 16 := by
  have := bc6hPrecs_le_or_eq p hlegal
  omega

theorem opPrec6_eq (r : RwRegs) : opPrec6 r = r.opb.toNat % 32 := fieldOf_zero r.opb 5

/-! ### BC6H quantize (44_quantizer.md R240, R241, R250)

The commands quantize integers, on which the clamp is that of the integers and the rounding changes nothing. -/

theorem clampRat_intCast (v lo hi : Int) : clampRat v lo hi = (clampInt v lo hi : Rat) := by
  unfold clampRat clampInt
  simp only [Int.cast_lt]
  split_ifs <;> rfl

theorem roundHalfUp_intCast (v : Int) : roundHalfUp v = v := by
  have hhalf : ⌊(1 / 2 : Rat)⌋ = 0 := by norm_num
  exact (Int.floor_intCast_add v (1 / 2 : Rat)).trans (by rw [hhalf, add_zero])

theorem q6U_intCast (v : Int) (p : Nat) :
    q6U v p = (max 0 (min 31743 v) * 2 ^ p + q6Bias p) / 31744 := by
  have hclamp : clampRat v 0 f16Max = (clampInt v 0 31743 : Rat) := mod_cast clampRat_intCast v 0 31743
  simp only [q6U, hclamp, roundHalfUp_intCast, clampInt_eq v (by decide : (0 : Int) ≤ 31743)]
  rfl

theorem q6S_intCast (v : Int) (p : Nat) :
    q6S v p = if v < 0 then -((min 31743 (-v) * 2 ^ (p - 1) + q6Bias p) / 31744)
      else (min 31743 v * 2 ^ (p - 1) + q6Bias p) / 31744 := by
  have hclamp : clampRat v (-f16Max) f16Max = (clampInt v (-31743) 31743 : Rat) :=
    mod_cast clampRat_intCast v (-31743) 31743
  have hmax : f16Max + 1 = 31744 := rfl
  simp only [q6S, hclamp, roundHalfUp_intCast, clampInt_eq v (by decide : (-31743 : Int) ≤ 31743), hmax]
  by_cases hv : v < 0
  · have habs : ((max (-31743) (min 31743 v)).natAbs : Int) = min 31743 (-v) := by omega
    rw [if_pos hv, if_pos (by omega), habs]
  · have habs : ((max (-31743) (min 31743 v)).natAbs : Int) = min 31743 v := by omega
    rw [if_neg hv, if_neg (by omega), habs]

theorem q6Bias_range {p : Nat} (hp : p ≤ 16) : 0 ≤ q6Bias p ∧ q6Bias p < 2 ^ 15 := by
  have hlo : (1 : Int) ≤ 2 ^ (p - 1) := one_le_pow₀ (by decide)
  have hhi : (2 : Int) ^ (p - 1) ≤ 2 ^ 15 := pow_le_pow_right₀ (by decide) (by omega)
  unfold q6Bias
  split <;> omega

/-- The binning of a magnitude in the working range gives a code of 17 bits at most. -/
theorem q6_bin_range {m : Int} {k p : Nat} (hm : 0 ≤ m ∧ m ≤ 31743) (hk : k ≤ 16) (hp : p ≤ 16) :
    0 ≤ (m * 2 ^ k + q6Bias p) / 31744 ∧ (m * 2 ^ k + q6Bias p) / 31744 ≤ 2 ^ 16 := by
  obtain ⟨hbias, hbias'⟩ := q6Bias_range hp
  have hlo : 0 ≤ m * 2 ^ k := mul_nonneg hm.1 (by positivity)
  have hhi : m * 2 ^ k ≤ 31743 * 2 ^ 16 :=
    mul_le_mul hm.2 (pow_le_pow_right₀ (by decide) hk) (by positivity) (by decide)
  omega

theorem q6_range (signed : Bool) (v : Int) {p : Nat} (hp : p ≤ 16) :
    -2 ^ 16 ≤ q6 signed v p ∧ q6 signed v p ≤ 2 ^ 16 := by
  cases signed with
  | false =>
    have := q6_bin_range (m := max 0 (min 31743 v)) (by omega) hp hp
    rw [q6, if_neg Bool.false_ne_true, q6U_intCast]
    omega
  | true =>
    rw [q6, if_pos rfl, q6S_intCast]
    split
    next hv => have := q6_bin_range (m := min 31743 (-v)) (k := p - 1) (by omega) (by omega) hp; omega
    next hv => have := q6_bin_range (m := min 31743 v) (k := p - 1) (by omega) (by omega) hp; omega

/-- Settles O9: the operand is an integer, and its code fits RES. -/
theorem quantizeBc6hCommand : Obligations.QuantizeBc6hCommand := by
  intro s p hp
  have hprec : opPrec6 s.inputs = p := (opPrec6_eq _).trans hp.symm
  refine ⟨fun hlegal => ?_, fun hillegal => ?_⟩
  · have hok : quant6Result s.inputs = .ok (wordOfInt (q6 (cfgSigned s.inputs.cfg) s.inputs.opa.toInt p)) := by
      rw [quant6Result, hprec, if_pos (contains_bc6hPrecs.2 hlegal)]; rfl
    obtain ⟨t, hexec, honly, hres⟩ := exec_of_ok (i := .quant6) rfl hok
    obtain ⟨hlo, hhi⟩ := q6_range (cfgSigned s.inputs.cfg) s.inputs.opa.toInt (le_sixteen_of_legal hlegal)
    refine ⟨t, hexec, honly, ?_⟩
    rw [hres, toInt_wordOfInt (by omega) (by omega)]
    refine ⟨fun hunsigned => ?_, fun hsigned hv => ?_, fun hsigned hv => ?_⟩
    · rw [hunsigned]
      exact q6U_intCast _ p
    · rw [hsigned]
      exact (q6S_intCast _ p).trans (if_neg (not_lt.2 hv))
    · rw [hsigned]
      exact (q6S_intCast _ p).trans (if_pos hv)
  · refine exec_of_error (i := .quant6) rfl ?_
    rw [quant6Result, hprec, if_neg (mt contains_bc6hPrecs.1 hillegal)]

/-! ### BC6H unquantize (44_quantizer.md R242, R243, R251) -/

theorem code6InRange_unsigned {q : Int} {p : Nat} : code6InRange false q p = true ↔ 0 ≤ q ∧ q < 2 ^ p := by
  simp [code6InRange]

theorem code6InRange_signed {q : Int} {p : Nat} :
    code6InRange true q p = true ↔ -2 ^ (p - 1) ≤ q ∧ q < 2 ^ (p - 1) := by
  simp [code6InRange]

/-- A code `q` of `2 ^ k`, scaled with an offset `h` within its bin to a range `w`, lies in the range. -/
theorem scaled_code_range {q w h : Int} {k : Nat} (hq : 0 ≤ q ∧ q < 2 ^ k) (hh : 0 ≤ h ∧ h < w) :
    0 ≤ (q * w + h) / 2 ^ k ∧ (q * w + h) / 2 ^ k < w := by
  have hpos : (0 : Int) < 2 ^ k := by positivity
  have hnonneg : 0 ≤ q * w + h := add_nonneg (mul_nonneg hq.1 (by omega)) hh.1
  refine ⟨Int.ediv_nonneg hnonneg hpos.le, Int.ediv_lt_of_lt_mul hpos ?_⟩
  calc q * w + h < (q + 1) * w := by linarith
    _ ≤ w * 2 ^ k := by rw [mul_comm w]; exact mul_le_mul_of_nonneg_right (by omega) (by omega)

theorem uq6U_range {q : Int} {p : Nat} (hp : p ≤ 16) (hq : 0 ≤ q ∧ q < 2 ^ p) :
    0 ≤ uq6U q p ∧ uq6U q p < 2 ^ 16 := by
  have hmax : (2 : Int) ^ p ≤ 2 ^ 16 := pow_le_pow_right₀ (by decide) hp
  have hmid := scaled_code_range hq (by decide : (0 : Int) ≤ 0x8000 ∧ (0x8000 : Int) < 2 ^ 16)
  unfold uq6U
  split_ifs <;> omega

theorem uq6S_range {q : Int} {p : Nat} (hp : p ≤ 16) (hq : -2 ^ (p - 1) ≤ q ∧ q < 2 ^ (p - 1)) :
    -2 ^ 15 ≤ uq6S q p ∧ uq6S q p < 2 ^ 15 := by
  have hmax : (2 : Int) ^ (p - 1) ≤ 2 ^ 15 := pow_le_pow_right₀ (by decide) (by omega)
  have hmid : (q.natAbs : Int) < 2 ^ (p - 1) →
      0 ≤ ((q.natAbs : Int) * 2 ^ 15 + 0x4000) / 2 ^ (p - 1) ∧
        ((q.natAbs : Int) * 2 ^ 15 + 0x4000) / 2 ^ (p - 1) < 2 ^ 15 := fun hlt =>
    scaled_code_range ⟨by omega, hlt⟩ (by decide)
  unfold uq6S
  dsimp only
  split_ifs <;> omega

theorem uq6_range {signed : Bool} {q : Int} {p : Nat} (hp : p ≤ 16) (hq : code6InRange signed q p = true) :
    -2 ^ 15 ≤ uq6 signed q p ∧ uq6 signed q p < 2 ^ 16 := by
  cases signed with
  | false =>
    have := uq6U_range hp (code6InRange_unsigned.1 hq)
    rw [uq6, if_neg Bool.false_ne_true]
    omega
  | true =>
    have := uq6S_range hp (code6InRange_signed.1 hq)
    rw [uq6, if_pos rfl]
    omega

/-- At a legal precision the codes that need no expansion are those of 16 bits (44_quantizer.md R242). -/
theorem uq6U_of_legal {p : Nat} (hlegal : p ∈ bc6hPrecs) (q : Int) :
    uq6U q p = if p = 16 then q else if q = 0 then 0 else if q = 2 ^ p - 1 then 65535
      else (q * 65536 + 32768) / 2 ^ p := by
  have hp : p ≥ 15 ↔ p = 16 := by have := bc6hPrecs_le_or_eq p hlegal; omega
  simp only [uq6U, hp]
  rfl

/-- The sign of the code, put back on its expanded magnitude (44_quantizer.md R243). -/
theorem uq6S_of_legal {p : Nat} (hlegal : p ∈ bc6hPrecs) (q : Int) :
    uq6S q p = if p = 16 then q else if max q (-q) = 0 then 0
      else if max q (-q) ≥ 2 ^ (p - 1) - 1 then (if q < 0 then -32767 else 32767)
      else if q < 0 then -((max q (-q) * 32768 + 16384) / 2 ^ (p - 1))
      else (max q (-q) * 32768 + 16384) / 2 ^ (p - 1) := by
  have hp : p ≥ 16 ↔ p = 16 := by have := bc6hPrecs_le_or_eq p hlegal; omega
  have habs : (q.natAbs : Int) = max q (-q) := by omega
  simp only [uq6S, hp, habs]
  split_ifs <;> rfl

theorem exec_unquant6_badPrec {s : State} (hillegal : opPrec6 s.inputs ∉ bc6hPrecs) :
    ∃ t, exec .unquant6 s = .next t ∧ OnlyErrorRaised s t .badPrec := by
  refine exec_of_error (i := .unquant6) rfl ?_
  rw [unquant6Result, if_pos (by simpa using mt contains_bc6hPrecs.1 hillegal)]

section

variable {s : State} {p : Nat} (hprec : opPrec6 s.inputs = p) (hlegal : p ∈ bc6hPrecs)
include hprec hlegal

theorem exec_unquant6_badOperand
    (hout : ¬ code6InRange (cfgSigned s.inputs.cfg) s.inputs.opa.toInt p = true) :
    ∃ t, exec .unquant6 s = .next t ∧ OnlyErrorRaised s t .badOperand := by
  refine exec_of_error (i := .unquant6) rfl ?_
  rw [unquant6Result, hprec, contains_bc6hPrecs.2 hlegal, if_neg (by decide), opaS32, if_pos (by simpa using hout)]

theorem exec_unquant6_ok (hin : code6InRange (cfgSigned s.inputs.cfg) s.inputs.opa.toInt p = true) :
    ∃ t, exec .unquant6 s = .next t ∧ OnlyResChanged s t ∧
      t.res.toInt = uq6 (cfgSigned s.inputs.cfg) s.inputs.opa.toInt p := by
  have hok : unquant6Result s.inputs = .ok (wordOfInt (uq6 (cfgSigned s.inputs.cfg) s.inputs.opa.toInt p)) := by
    rw [unquant6Result, hprec, contains_bc6hPrecs.2 hlegal, if_neg (by decide), opaS32, hin, if_neg (by decide)]
  obtain ⟨t, hexec, honly, hres⟩ := exec_of_ok (i := .unquant6) rfl hok
  obtain ⟨hlo, hhi⟩ := uq6_range (le_sixteen_of_legal hlegal) hin
  exact ⟨t, hexec, honly, by rw [hres, toInt_wordOfInt (by omega) (by omega)]⟩

end

/-- Settles O10: the checks in their order, then the expansion under either format. -/
theorem unquantizeBc6hCommand : Obligations.UnquantizeBc6hCommand := by
  rintro s p q m hp rfl rfl
  have hprec : opPrec6 s.inputs = p := (opPrec6_eq _).trans hp.symm
  refine ⟨fun hillegal => exec_unquant6_badPrec (hprec ▸ hillegal), fun hlegal hunsigned => ?_,
    fun hlegal hsigned => ?_⟩
  · have hbad := exec_unquant6_badOperand hprec hlegal
    have hok := exec_unquant6_ok hprec hlegal
    rw [hunsigned, code6InRange_unsigned] at hbad hok
    exact ⟨hbad, fun hin => uq6U_of_legal hlegal _ ▸ hok hin⟩
  · have hbad := exec_unquant6_badOperand hprec hlegal
    have hok := exec_unquant6_ok hprec hlegal
    rw [hsigned, code6InRange_signed] at hbad hok
    exact ⟨hbad, fun hin => uq6S_of_legal hlegal _ ▸ hok hin⟩

/-! ### BC6H finish (44_quantizer.md R244, R252) -/

theorem finishInRange_unsigned {c : Int} : finishInRange false c = true ↔ 0 ≤ c ∧ c ≤ 65535 := by
  simp [finishInRange]

theorem finishInRange_signed {c : Int} : finishInRange true c = true ↔ -32768 ≤ c ∧ c ≤ 32767 := by
  simp [finishInRange]

theorem fin6_range {signed : Bool} {c : Int} (hc : finishInRange signed c = true) :
    -2 ^ 15 ≤ fin6 signed c ∧ fin6 signed c < 2 ^ 15 := by
  cases signed with
  | false =>
    rw [finishInRange_unsigned] at hc
    rw [fin6, if_neg Bool.false_ne_true, fin6U]
    omega
  | true =>
    rw [finishInRange_signed] at hc
    rw [fin6, if_pos rfl, fin6S]
    split <;> omega

theorem exec_finish6_badOperand {s : State}
    (hout : ¬ finishInRange (cfgSigned s.inputs.cfg) s.inputs.opa.toInt = true) :
    ∃ t, exec .finish6 s = .next t ∧ OnlyErrorRaised s t .badOperand :=
  exec_of_error (i := .finish6) rfl (if_neg hout)

theorem exec_finish6_ok {s : State} (hin : finishInRange (cfgSigned s.inputs.cfg) s.inputs.opa.toInt = true) :
    ∃ t, exec .finish6 s = .next t ∧ OnlyResChanged s t ∧
      t.res.toInt = fin6 (cfgSigned s.inputs.cfg) s.inputs.opa.toInt := by
  obtain ⟨t, hexec, honly, hres⟩ := exec_of_ok (i := .finish6) (s := s) rfl (if_pos hin)
  obtain ⟨hlo, hhi⟩ := fin6_range hin
  exact ⟨t, hexec, honly, by rw [hres, opaS32, toInt_wordOfInt (by omega) (by omega)]⟩

/-- Settles O11: the domain check, then the scaling under either format. -/
theorem finishBc6hCommand : Obligations.FinishBc6hCommand := by
  rintro s c rfl
  have hbad := exec_finish6_badOperand (s := s)
  have hok := exec_finish6_ok (s := s)
  refine ⟨fun hunsigned => ?_, fun hsigned => ?_⟩
  · rw [hunsigned, finishInRange_unsigned] at hbad hok
    exact ⟨hok, hbad⟩
  · rw [hsigned, finishInRange_signed] at hbad hok
    exact ⟨hok, hbad⟩

/-! ### The round trip (44_quantizer.md R246) -/

/-- Settles O36: the ends are integers, so the quantizer's answers are computed in the integers, precision by
precision. -/
theorem boundaryExactness : Obligations.BoundaryExactness := by
  have hzeroU := q6U_intCast 0
  have hmaxU := q6U_intCast 31743
  have hminS := q6S_intCast (-31743)
  have hzeroS := q6S_intCast 0
  have hmaxS := q6S_intCast 31743
  push_cast at hzeroU hmaxU hminS hzeroS hmaxS
  simp only [Obligations.BoundaryExactness, hzeroU, hmaxU, hminS, hzeroS, hmaxS]
  decide

/-! ### BC6H deltas (44_quantizer.md R248, R249) -/

theorem deltaStored_cast (d : Int) (db : Nat) : (deltaStored d db : Int) = d % 2 ^ db :=
  Int.toNat_of_nonneg (Int.emod_nonneg d (by positivity))

theorem deltaStored_lt (d : Int) {db : Nat} (hdb : db ≤ 16) : deltaStored d db < 2 ^ 16 := by
  have hmod : d % 2 ^ db < 2 ^ db := Int.emod_lt_of_pos d (by positivity)
  have hmax : (2 : Int) ^ db ≤ 2 ^ 16 := pow_le_pow_right₀ (by decide) hdb
  have := deltaStored_cast d db
  omega

/-- The word of DELTA6: 16 bits of delta, 15 zeros, the overflow. -/
theorem packFields_delta {v ov : Nat} (hv : v < 2 ^ 16) (hov : ov ≤ 1) :
    packFields [(16, v), (15, 0), (1, ov)] = v + 2 ^ 31 * ov := by
  simp only [packFields]
  omega

/-- Settles O18: the stored delta and the overflow stand in fields of their own. -/
theorem deltaBc6hCommand : Obligations.DeltaBc6hCommand := by
  intro s db d hdb hd
  have hbits : opDeltaBits s.inputs = db := (fieldOf_zero s.inputs.opc 5).trans hdb.symm
  have hdiff : opbS32 s.inputs - opaS32 s.inputs = d := hd.symm
  refine ⟨fun hillegal => exec_of_error (i := .delta6) rfl ?_, fun hlegal => ?_⟩
  · simp only [delta6Result, hbits, decide_eq_true_eq, if_neg hillegal]
  · have hlt := deltaStored_lt d hlegal.2
    have hcast := deltaStored_cast d db
    obtain ⟨ov, hov1, hov, hok⟩ : ∃ ov, ov ≤ 1 ∧ (ov = 0 ↔ deltaFits d db = true) ∧
        delta6Result s.inputs = .ok (wordOf (packFields [(16, deltaStored d db), (15, 0), (1, ov)])) := by
      refine ⟨if deltaFits d db then 0 else 1, by split <;> decide, by simp, ?_⟩
      simp only [delta6Result, hbits, hdiff, decide_eq_true_eq, if_pos hlegal]
    rw [packFields_delta hlt hov1] at hok
    obtain ⟨t, hexec, honly, hres⟩ := exec_of_ok (i := .delta6) rfl hok
    have hfits : deltaFits d db = true ↔ -2 ^ (db - 1) ≤ d ∧ d < 2 ^ (db - 1) := decide_eq_true_iff
    refine ⟨t, hexec, honly, ?_⟩
    rw [hres, ← hfits, ← hov, ← hcast, toNat_wordOf (by omega)]
    omega

/-! ### BC7 expansion (44_quantizer.md R253, R259) -/

/-- The top bits fit below the shifted value, so the two halves add up (44_quantizer.md R253). -/
theorem expand_eq {x n : Nat} (hn : 4 ≤ n) (hn8 : n ≤ 8) (hx : x < 2 ^ n) :
    expand x n = if n = 8 then x else x * 2 ^ (8 - n) + x / 2 ^ (2 * n - 8) := by
  have hbelow : x / 2 ^ (2 * n - 8) < 2 ^ (8 - n) := by
    rw [Nat.div_lt_iff_lt_mul (by positivity), ← pow_add]
    exact hx.trans_eq (congrArg (2 ^ ·) (by omega))
  rw [expand, Nat.shiftRight_eq_div_pow, ← Nat.shiftLeft_add_eq_or_of_lt hbelow, Nat.shiftLeft_eq]

/-- A greater code expands to a greater value. -/
theorem expand_lt_expand {x y n : Nat} (hn : 4 ≤ n) (hn8 : n ≤ 8) (hxy : x < y) (hy : y < 2 ^ n) :
    expand x n < expand y n := by
  rw [expand_eq hn hn8 (hxy.trans hy), expand_eq hn hn8 hy]
  split
  · exact hxy
  · exact Nat.add_lt_add_of_lt_of_le (Nat.mul_lt_mul_of_pos_right hxy (by positivity))
      (Nat.div_le_div_right hxy.le)

theorem expand_lt {x n : Nat} (hn : 4 ≤ n) (hn8 : n ≤ 8) (hx : x < 2 ^ n) : expand x n < 256 := by
  have htop : expand (2 ^ n - 1) n < 256 := by interval_cases n <;> decide
  rcases (Nat.le_sub_one_of_lt hx).eq_or_lt with rfl | hlt
  · exact htop
  · exact (expand_lt_expand hn hn8 hlt (by omega)).trans htop

/-- Settles O13: the checks in their order, then the expansion. -/
theorem expandBc7Command : Obligations.ExpandBc7Command := by
  intro s n x hn hx
  have hwidth : opWidth7 s.inputs = n := (fieldOf_zero s.inputs.opb 4).trans hn.symm
  have hcode : opaU32 s.inputs = x := hx.symm
  refine ⟨fun hillegal => exec_of_error (i := .expand7) rfl ?_, fun hlegal hbig =>
    exec_of_error (i := .expand7) rfl ?_, fun hlegal hfits => ?_⟩
  · rw [expand7Result, hwidth, decide_eq_false hillegal, if_pos Bool.not_false]
  · rw [expand7Result, hwidth, hcode, decide_eq_true hlegal, if_neg (by decide), if_pos hbig]
  · have hok : expand7Result s.inputs = .ok (wordOf (expand x n)) := by
      rw [expand7Result, hwidth, hcode, decide_eq_true hlegal, if_neg (by decide), if_neg (not_le.2 hfits)]
    obtain ⟨t, hexec, honly, hres⟩ := exec_of_ok (i := .expand7) rfl hok
    have hbyte := expand_lt hlegal.1 hlegal.2 hfits
    exact ⟨t, hexec, honly, by rw [hres, toNat_wordOf (by omega), expand_eq hlegal.1 hlegal.2 hfits]⟩

/-! ### The nearest code (44_quantizer.md R254, R255) -/

/-- `c` is the lowest of the codes below `k` whose reconstruction by `r` is nearest to `x`. -/
def LowestNearest (r : Nat → Nat) (k : Nat) (x : Int) (c : Nat) : Prop :=
  c < k ∧ ∀ c' < k, ((r c : Int) - x).natAbs ≤ ((r c' : Int) - x).natAbs ∧
    (((r c' : Int) - x).natAbs = ((r c : Int) - x).natAbs → c ≤ c')

theorem absRat_sub_cast (a : Nat) (x : Int) : absRat ((a : Rat) - x) = (((a : Int) - x).natAbs : Rat) := by
  have habs : absRat ((a : Rat) - x) = |(a : Rat) - x| := by
    unfold absRat
    split
    next h => exact (abs_of_neg h).symm
    next h => exact (abs_of_nonneg (not_lt.1 h)).symm
  rw [habs, Nat.cast_natAbs]
  push_cast
  rfl

theorem lowestNearest_argMinRat (r : Nat → Nat) {k : Nat} (hk : 0 < k) (x : Int) :
    LowestNearest r k x (argMinRat ((List.range k).map fun c => absRat ((r c : Rat) - x))) := by
  have hne : ((List.range k).map fun c => absRat ((r c : Rat) - x)) ≠ [] := by simp; omega
  obtain ⟨hlt, hmin⟩ := argMinRat_spec _ hne
  refine ⟨by simpa using hlt, fun c hc => ?_⟩
  simpa only [List.getElem_map, List.getElem_range, absRat_sub_cast, Nat.cast_le, Nat.cast_inj]
    using hmin c (by simpa using hc)

theorem clampRat_byte (v : Int) : clampRat v 0 255 = ((max 0 (min 255 v) : Int) : Rat) := by
  rw [← clampInt_eq v (by decide)]
  exact mod_cast clampRat_intCast v 0 255

theorem q7_lowestNearest (v : Int) (n : Nat) :
    LowestNearest (expand · n) (2 ^ n) (max 0 (min 255 v)) (q7 v n) := by
  rw [q7, clampRat_byte]
  exact lowestNearest_argMinRat (expand · n) (by positivity) _

theorem q7p_lowestNearest (v : Int) (n P : Nat) :
    LowestNearest (recon · n P) (2 ^ n) (max 0 (min 255 v)) (q7p v n P) := by
  rw [q7p, clampRat_byte]
  exact lowestNearest_argMinRat (recon · n P) (by positivity) _

section

variable {r : Nat → Nat} {k : Nat} {x : Int} {c : Nat} (hc : LowestNearest r k x c)
  (hr : ∀ a b, a < b → b < k → r a < r b)
include hc hr

/-- Below every reconstruction the first code is nearest. -/
theorem LowestNearest.eq_zero (hx : x ≤ r 0) : c = 0 := by
  obtain ⟨hlt, hmin⟩ := hc
  by_contra hne
  have hrc := hr 0 c (by omega) hlt
  have := hmin 0 (by omega)
  omega

/-- Above every reconstruction the last code is nearest. -/
theorem LowestNearest.eq_last (hx : (r (k - 1) : Int) ≤ x) : c = k - 1 := by
  obtain ⟨hlt, hmin⟩ := hc
  by_contra hne
  have hrc := hr c (k - 1) (by omega) (by omega)
  have := hmin (k - 1) (by omega)
  omega

end

/-! ### BC7 quantize (44_quantizer.md R258) -/

/-- What QUANT7's code stands for: expanded, with the p-bit below it if that is enabled. -/
def quant7Recon (pen n P c : Nat) : Nat := if pen = 0 then expand c n else expand (2 * c + P) (n + 1)

/-- The code QUANT7 answers. -/
def quant7Code (v : Int) (pen n P : Nat) : Nat := if pen = 0 then q7 v n else q7p v n P

theorem recon_eq (c n : Nat) {P : Nat} (hP : P < 2) : recon c n P = expand (2 * c + P) (n + 1) := by
  rw [recon, ← Nat.shiftLeft_add_eq_or_of_lt (by simpa using hP), Nat.shiftLeft_eq, mul_comm]

theorem quant7Code_lowestNearest (v : Int) (pen n : Nat) {P : Nat} (hP : P < 2) :
    LowestNearest (quant7Recon pen n P) (2 ^ n) (max 0 (min 255 v)) (quant7Code v pen n P) := by
  unfold quant7Code quant7Recon
  split
  · exact q7_lowestNearest v n
  · simpa only [recon_eq _ _ hP] using q7p_lowestNearest v n P

section

variable {pen n P : Nat} (hpen : pen < 2) (hP : P < 2) (hlo : 4 ≤ n + pen) (hhi : n + pen ≤ 8)
include hpen hP hlo hhi

theorem quant7Recon_strictMono (a b : Nat) (hab : a < b) (hb : b < 2 ^ n) :
    quant7Recon pen n P a < quant7Recon pen n P b := by
  have hpow : 2 ^ (n + 1) = 2 * 2 ^ n := pow_succ' 2 n
  unfold quant7Recon
  split
  · exact expand_lt_expand (by omega) (by omega) hab hb
  · exact expand_lt_expand (by omega) (by omega) (by omega) (by omega)

theorem quant7Recon_lt {c : Nat} (hc : c < 2 ^ n) : quant7Recon pen n P c < 256 := by
  have hpow : 2 ^ (n + 1) = 2 * 2 ^ n := pow_succ' 2 n
  unfold quant7Recon
  split
  · exact expand_lt (by omega) (by omega) hc
  · exact expand_lt (by omega) (by omega) (by omega)

end

/-- Settles O12: the code is the lowest nearest one, and reconstructions grow with the code within a byte. -/
theorem quantizeBc7Nearest : Obligations.QuantizeBc7Nearest := by
  intro s n pen P x hn hpen hP hx
  have hbits : opBits7 s.inputs = n := (fieldOf_zero s.inputs.opb 4).trans hn.symm
  have henable : opPen s.inputs = pen := hpen.symm
  have hpbit : opPbit s.inputs = P := hP.symm
  refine ⟨fun hlegal => ?_, fun hillegal => exec_of_error (i := .quant7) rfl ?_⟩
  · have hok : quant7Result s.inputs = .ok (wordOf (quant7Code s.inputs.opa.toInt pen n P)) := by
      simp only [quant7Result, hbits, henable, hpbit, decide_eq_true_eq, if_pos hlegal, quant7Code]
      split <;> rfl
    obtain ⟨t, hexec, honly, hres⟩ := exec_of_ok (i := .quant7) rfl hok
    have hcode := quant7Code_lowestNearest s.inputs.opa.toInt pen n (by omega : P < 2)
    have hmono := quant7Recon_strictMono (by omega : pen < 2) (by omega : P < 2) hlegal.1 hlegal.2
    have hpow : 2 ^ n ≤ 2 ^ 8 := Nat.pow_le_pow_right (by decide) (by omega)
    have hlast := quant7Recon_lt (by omega : pen < 2) (by omega : P < 2) hlegal.1 hlegal.2
      (Nat.sub_one_lt (Nat.two_pow_pos n).ne')
    rw [← hx] at hcode
    have htoNat : t.res.toNat = quant7Code s.inputs.opa.toInt pen n P := by
      rw [hres, toNat_wordOf (by have := hcode.1; omega)]
    rw [← htoNat] at hcode
    refine ⟨t, hexec, honly, hcode.1, fun d hd c hc => ?_, fun hneg => hcode.eq_zero hmono (by omega),
      fun hbig => hcode.eq_last hmono (by omega)⟩
    have hdist : ∀ c, d c = (quant7Recon pen n P c : Int) - x := fun c => by
      rw [hd, quant7Recon]
      split <;> rfl
    simpa only [hdist] using hcode.2 c hc
  · simp only [quant7Result, hbits, henable, decide_eq_true_eq, if_neg hillegal]

end Sys2Proof.Machine

/-! SUPPORT. The interpolation-weight tables and the fixed-point interpolation (45_palette.md), and the two commands
that answer them. -/

namespace Sys2Proof.Machine

/-! ### The weight tables (45_palette.md R280)

The laws of the tables are checked entry by entry, for the three widths and their indices. -/

theorem indexBitsLegal_iff {b : Nat} : indexBitsLegal b = true ↔ b ∈ [2, 3, 4] := by
  simp [indexBitsLegal, or_assoc]

theorem weightTable_of_legal {b : Nat} (hlegal : b ∈ [2, 3, 4]) :
    weightTable b = if b = 2 then weights2 else if b = 3 then weights3 else weights4 := by
  fin_cases hlegal <;> rfl

theorem weight_zero (b : Nat) : weight b 0 = 0 := by
  unfold weight weightTable
  split_ifs <;> rfl

theorem weight_lt_weight_succ : ∀ b ∈ [2, 3, 4], ∀ j < 2 ^ b - 1, weight b j < weight b (j + 1) := by decide

/-- A table read from its end counts down from 64. -/
theorem weight_add_weight_mirror : ∀ b ∈ [2, 3, 4], ∀ j < 2 ^ b, weight b j + weight b (2 ^ b - 1 - j) = 64 := by
  decide

theorem weight_last {b : Nat} (hlegal : b ∈ [2, 3, 4]) : weight b (2 ^ b - 1) = 64 := by
  simpa [weight_zero] using weight_add_weight_mirror b hlegal 0 (Nat.two_pow_pos b)

theorem weight_le {b j : Nat} (hlegal : b ∈ [2, 3, 4]) (hj : j < 2 ^ b) : weight b j ≤ 64 :=
  (Nat.le_add_right _ _).trans_eq (weight_add_weight_mirror b hlegal j hj)

/-! ### The interpolation (45_palette.md R281) -/

theorem lerp_weight_zero (e0 e1 : Int) : lerp e0 e1 0 = e0 := by
  unfold lerp; omega

theorem lerp_weight_max (e0 e1 : Int) : lerp e0 e1 64 = e1 := by
  unfold lerp; omega

/-- The weights add up to 64, so the interpolation stays within any bounds of its endpoints. -/
theorem lerp_mem_Icc {e0 e1 lo hi : Int} {w : Nat} (hw : w ≤ 64) (h0 : e0 ∈ Set.Icc lo hi)
    (h1 : e1 ∈ Set.Icc lo hi) : lerp e0 e1 w ∈ Set.Icc lo hi := by
  have hw0 : (0 : Int) ≤ 64 - w := by omega
  have hw1 : (0 : Int) ≤ w := by omega
  have hlower : 64 * lo ≤ e0 * (64 - w) + e1 * w := calc
    64 * lo = lo * (64 - w) + lo * w := by ring
    _ ≤ e0 * (64 - w) + e1 * w :=
      Int.add_le_add (Int.mul_le_mul_of_nonneg_right h0.1 hw0) (Int.mul_le_mul_of_nonneg_right h1.1 hw1)
  have hupper : e0 * (64 - w) + e1 * w ≤ 64 * hi := calc
    e0 * (64 - w) + e1 * w ≤ hi * (64 - w) + hi * w :=
      Int.add_le_add (Int.mul_le_mul_of_nonneg_right h0.2 hw0) (Int.mul_le_mul_of_nonneg_right h1.2 hw1)
    _ = 64 * hi := by ring
  rw [lerp, Set.mem_Icc]
  omega

/-! ### The commands (45_palette.md R284, R285) -/

/-- A command that reads a weight table checks the index width, then its operands, then answers a word. -/
theorem weightedCommand_ends {s : State} {i : Instr} {b : Nat} {bad : Prop} [Decidable bad] {v : Word}
    (hexec : exec i s = unitResult s
      (if !indexBitsLegal b then .error .badPrec else if bad then .error .badOperand else .ok v)) :
    (b ∉ [2, 3, 4] → ∃ t, exec i s = .next t ∧ OnlyErrorRaised s t .badPrec) ∧
    (b ∈ [2, 3, 4] → bad → ∃ t, exec i s = .next t ∧ OnlyErrorRaised s t .badOperand) ∧
    (b ∈ [2, 3, 4] → ¬ bad → ∃ t, exec i s = .next t ∧ OnlyResChanged s t ∧ t.res = v) := by
  refine ⟨fun hillegal => exec_of_error hexec ?_, fun hlegal hbad => exec_of_error hexec ?_,
    fun hlegal hgood => exec_of_ok hexec ?_⟩
  · rw [← indexBitsLegal_iff, Bool.not_eq_true] at hillegal
    rw [hillegal, if_pos Bool.not_false]
  · rw [indexBitsLegal_iff.2 hlegal, if_neg (by decide), if_pos hbad]
  · rw [indexBitsLegal_iff.2 hlegal, if_neg (by decide), if_neg hgood]

theorem exec_weight (s : State) : exec .weight s = unitResult s (weightResult s.inputs) := rfl

theorem exec_lerp (s : State) : exec .lerp s = unitResult s (lerpResult s.inputs) := rfl

/-- Settles O14: the command's checks in their order, and the laws of the tables. -/
theorem weightCommand : Obligations.WeightCommand := by
  refine ⟨fun s b j hb hj => ?_, fun b hlegal => ⟨weight_zero b, weight_last hlegal,
    fun j hj => weight_lt_weight_succ b hlegal j (by omega), weight_add_weight_mirror b hlegal⟩⟩
  have hbits : opWeightBits s.inputs = b := (fieldOf_zero s.inputs.opa 3).trans hb.symm
  have hindex : opbU32 s.inputs = j := hj.symm
  have hexec := exec_weight s
  rw [weightResult, hbits, hindex] at hexec
  obtain ⟨hprec, hoperand, hok⟩ := weightedCommand_ends hexec
  refine ⟨hprec, hoperand, fun hlegal hlt => ?_⟩
  obtain ⟨t, hnext, honly, hres⟩ := hok hlegal (not_le.2 hlt)
  have hle := weight_le hlegal hlt
  have hread : t.res.toNat = weight b j := by rw [hres, toNat_wordOf (by omega)]
  refine ⟨t, hnext, honly, ?_⟩
  rw [hread, weight, weightTable_of_legal hlegal]
  rfl

/-- Settles O15: the command's checks in their order; the interpolation stays between its endpoints' bounds, so it fits
RES. -/
theorem lerpCommand : Obligations.LerpCommand := by
  refine ⟨fun s b j e0 e1 hb hj he0 he1 => ?_, fun e0 e1 => ⟨lerp_weight_zero e0 e1, lerp_weight_max e0 e1⟩⟩
  have hbits : opLerpBits s.inputs = b := (fieldOf_zero s.inputs.opc 3).trans hb.symm
  have hindex : opLerpIndex s.inputs = j := hj.symm
  have hfirst : opaS32 s.inputs = e0 := he0.symm
  have hsecond : opbS32 s.inputs = e1 := he1.symm
  have hexec := exec_lerp s
  rw [lerpResult, hbits, hindex, hfirst, hsecond] at hexec
  obtain ⟨hprec, hoperand, hok⟩ := weightedCommand_ends hexec
  refine ⟨hprec, hoperand, fun hlegal hlt h0 h1 => ?_⟩
  obtain ⟨t, hnext, honly, hres⟩ := hok hlegal (by omega)
  obtain ⟨hlo, hhi⟩ : lerp e0 e1 (weight b j) ∈ Set.Icc (-65535) 65535 :=
    lerp_mem_Icc (weight_le hlegal hlt) ⟨by omega, by omega⟩ ⟨by omega, by omega⟩
  exact ⟨t, hnext, honly, by rw [hres, toInt_wordOfInt (by omega) (by omega)]; rfl⟩

end Sys2Proof.Machine

/-! SUPPORT. The index comparator (46_index_assign.md R300, R301) and the assignments made with it (R303, R305). -/

namespace Sys2Proof.Machine

/-! ### Lists and sums -/

/-- Lists of one length `n`, back to back: entry `e` of the `k`-th stands at `k * n + e`. -/
theorem getD_flatMap_of_length {α β : Type} {l : List α} {f : α → List β} {n k e : Nat} (d : β)
    (hlen : ∀ x ∈ l, (f x).length = n) (hk : k < l.length) (he : e < n) :
    (l.flatMap f).getD (k * n + e) d = (f l[k]).getD e d := by
  induction l generalizing k with
  | nil => exact absurd hk (by simp)
  | cons x l ih =>
    have hx : (f x).length = n := hlen x (by simp)
    cases k with
    | zero =>
      rw [List.flatMap_cons, Nat.zero_mul, Nat.zero_add, List.getD_append _ _ _ _ (hx ▸ he)]
      rfl
    | succ k =>
      have hk' : k < l.length := by simpa using hk
      have hskip : (k + 1) * n + e = n + (k * n + e) := by ring
      rw [List.flatMap_cons, List.getD_append_right _ _ _ _ (by rw [hx, hskip]; omega), hx, hskip,
        Nat.add_sub_cancel_left]
      exact ih (fun y hy => hlen y (by simp [hy])) hk'

theorem getD_map_range {α : Type} (f : Nat → α) {n i : Nat} (hi : i < n) (d : α) :
    ((List.range n).map f).getD i d = f i := by
  simp [hi]

theorem getD_map_pixels {α : Type} (f : Nat → α) {i : Nat} (hi : i < 16) (d : α) :
    (pixels.map f).getD i d = f i :=
  getD_map_range f hi d

theorem getD_zipWith {α β γ : Type} (f : α → β → γ) {l : List α} {l' : List β} {i : Nat} (hl : i < l.length)
    (hl' : i < l'.length) (a : α) (b : β) (c : γ) :
    (List.zipWith f l l').getD i c = f (l.getD i a) (l'.getD i b) := by
  simp [hl, hl']

/-! ### The comparator -/

/-- The error of an entry, channel by channel (46_index_assign.md R300). -/
theorem entryError_eq_sum {n : Nat} {ww : List Nat} {v entry : List Int} (hww : ww.length = n) (hv : v.length = n)
    (hentry : entry.length = n) : entryError ww v entry =
      ((List.range n).map fun a => ww.getD a 0 * (entry.getD a 0 - v.getD a 0).natAbs ^ 2).sum := by
  unfold entryError
  congr 1
  apply List.ext_getElem
  · simp [hww, hv, hentry]
  · intro a ha _
    obtain ⟨hw, he, hx⟩ : a < ww.length ∧ a < entry.length ∧ a < v.length := by simpa using ha
    simp [hw, he, hx]

section

variable {ww : List Nat} {v : List Int} {pal : List (List Int)} {lim j e : Nat} (hpos : 0 < lim)
  (hlim : lim ≤ pal.length) (hnearest : nearestEntry ww v pal lim = (j, e))
include hpos hlim hnearest

/-- The comparator's index is allowed, its error is that entry's, and it is the lowest of least error. -/
theorem nearestEntry_spec : j < lim ∧ e = entryError ww v (pal.getD j []) ∧
    ∀ k < lim, e ≤ entryError ww v (pal.getD k []) ∧ (entryError ww v (pal.getD k []) = e → j ≤ k) := by
  obtain ⟨es, hes⟩ : ∃ es, es = (pal.take lim).map (entryError ww v) := ⟨_, rfl⟩
  have hlen : es.length = lim := by simpa [hes] using hlim
  have hget (k : Nat) (hk : k < es.length) : es[k] = entryError ww v (pal.getD k []) := by
    have hk' : k < pal.length := by omega
    simp [hes, hk']
  obtain ⟨hlt, hmin⟩ := argMinNat_spec es (List.ne_nil_of_length_pos (by omega))
  have hj : argMinNat es = j := by rw [hes]; exact congrArg Prod.fst hnearest
  have herr : es.getD (argMinNat es) 0 = e := by rw [hes]; exact congrArg Prod.snd hnearest
  rw [List.getD_eq_getElem _ _ hlt, hget _ hlt, hj] at herr
  simp only [hget, hj, herr] at hlt hmin
  exact ⟨by omega, herr.symm, fun k hk => hmin k (by omega)⟩

end

/-- Settles O33: the comparator takes the first least of the allowed entries' errors. -/
theorem comparatorPicksFirstLeast : Obligations.ComparatorPicksFirstLeast := by
  intro ww v pal lim j e hpos hlim hnearest
  obtain ⟨hlt, herr, hmin⟩ := nearestEntry_spec hpos hlim hnearest
  refine ⟨hlt, herr, hmin, fun n hww hv hentry => ?_⟩
  rw [herr, entryError_eq_sum hww hv hentry]
  push_cast [Function.comp_def, List.map_map]
  simp only [sq_abs]

/-- Every pixel may use at least one entry and none past the palette (46_index_assign.md R301). -/
theorem indexLimit_range {b : Nat} (hb : 0 < b) (anchor : Bool) :
    0 < indexLimit b anchor ∧ indexLimit b anchor ≤ 2 ^ b := by
  obtain ⟨k, rfl⟩ := Nat.exists_eq_succ_of_ne_zero hb.ne'
  have : 0 < 2 ^ k := Nat.two_pow_pos k
  unfold indexLimit
  rw [Nat.pow_succ]
  split <;> omega

/-! ### Assignments -/

section

variable {asg : List (Nat × Nat × Nat)} {px : List Nat} {N : Nat → Nat × Nat}
  (hasg : asg.Perm (px.map fun i => (i, N i)))
include hasg

/-- The error of an assignment does not depend on the order of its pixels (46_index_assign.md R303). -/
theorem assignmentError_of_perm : assignmentError asg = (px.map fun i => (N i).2).sum := by
  rw [assignmentError, (hasg.map _).sum_eq, List.map_map]
  rfl

/-- The index array holds each assigned pixel's index (46_index_assign.md R305). -/
theorem indexArray_of_perm {i : Nat} (hi : i < 16) (hmem : i ∈ px) : (indexArray asg).getD i 0 = (N i).1 := by
  rw [indexArray, getD_map_pixels _ hi]
  obtain ⟨a, hfind⟩ : ∃ a, asg.find? (fun a => a.1 == i) = some a := by
    rw [← Option.isSome_iff_exists, List.find?_isSome]
    exact ⟨(i, N i), hasg.mem_iff.2 (List.mem_map.2 ⟨i, hmem, rfl⟩), by simp⟩
  obtain ⟨i', _, rfl⟩ := List.mem_map.1 (hasg.mem_iff.1 (List.mem_of_find?_eq_some hfind))
  have hi' : i' = i := by simpa using List.find?_some hfind
  rw [hfind, ← hi']
  rfl

end

/-- Going through a list class by class is going through those of its elements that have a class. -/
theorem flatMap_filter_perm {α β : Type} (l : List α) (cls : α → Nat) (g : Nat → α → β) (n : Nat) :
    ((List.range n).flatMap fun k => (l.filter fun x => cls x == k).map (g k)).Perm
      ((l.filter fun x => decide (cls x < n)).map fun x => g (cls x) x) := by
  induction n with
  | zero => simp
  | succ n ih =>
    have hold : (l.filter fun x => decide (cls x < n + 1)).filter (fun x => decide (cls x < n)) =
        l.filter fun x => decide (cls x < n) := by
      rw [List.filter_filter]
      congr 1; funext x; simp; omega
    have hnew : (l.filter fun x => decide (cls x < n + 1)).filter (fun x => !decide (cls x < n)) =
        l.filter fun x => cls x == n := by
      rw [List.filter_filter]
      congr 1; funext x; rw [Bool.eq_iff_iff]; simp; omega
    have hclass : (l.filter fun x => cls x == n).map (g n) =
        (l.filter fun x => cls x == n).map fun x => g (cls x) x :=
      List.map_congr_left fun x hx => by rw [beq_iff_eq.1 (List.mem_filter.1 hx).2]
    rw [List.range_succ, List.flatMap_append, List.flatMap_singleton, hclass]
    refine (ih.append_right _).trans ?_
    rw [← List.map_append, ← hold, ← hnew]
    exact (List.filter_append_perm _ _).map _

/-- The valid pixels of a tile. -/
def validPixels (t : Tile) : List Nat := pixels.filter fun i => t.valid.getD i false

theorem lt_of_mem_validPixels {t : Tile} {i : Nat} (hi : i ∈ validPixels t) : i < 16 :=
  List.mem_range.1 (List.mem_filter.1 hi).1

theorem regionPixels_eq (t : Tile) (ns s k : Nat) :
    regionPixels t ns s k = (validPixels t).filter fun i => region ns s i == k := by
  simp only [regionPixels, validPixels, List.filter_filter, Bool.and_comm]

/-- The regions of a shape part the valid pixels (42_partition_lut.md R204), so going through the regions assigns each
valid pixel once, by its region. -/
theorem assignRegions_perm (t : Tile) {ns s : Nat} (hns : ns < 4) (hpos : 0 < ns) (hs : s < 64)
    (N : Nat → Nat → Nat × Nat) :
    ((List.range ns).flatMap fun k => (regionPixels t ns s k).map fun i => (i, N k i)).Perm
      ((validPixels t).map fun i => (i, N (region ns s i) i)) := by
  have hall : ((validPixels t).filter fun i => decide (region ns s i < ns)) = validPixels t :=
    List.filter_eq_self.2 fun i hi => by simpa using region_lt ns hns hpos s hs i (lt_of_mem_validPixels hi)
  have hperm := flatMap_filter_perm (validPixels t) (region ns s) (fun k i => (i, N k i)) ns
  rw [hall] at hperm
  simpa only [regionPixels_eq] using hperm

end Sys2Proof.Machine

/-! SUPPORT. The tile the stages read (41_tile.md): its vectors, channel weights and importance weights, slot by slot,
and the rotation of channels (48_packer_bc7.md R367). -/

namespace Sys2Proof.Machine

/-! ### The slots of the prepared tile -/

section

variable (boost : Nat) (r : RwRegs) {i : Nat} (hi : i < 16)
include hi

theorem prepareTile_vec : (prepareTile boost r).vec.getD i [] = tileVector r i := getD_map_pixels _ hi _

theorem prepareTile_cw : (prepareTile boost r).cw.getD i [] = channelWeights r i := getD_map_pixels _ hi _

theorem prepareTile_imp : (prepareTile boost r).imp.getD i 0 = effectiveWeight boost r i := getD_map_pixels _ hi _

end

theorem validPixels_prepareTile (boost : Nat) (r : RwRegs) :
    validPixels (prepareTile boost r) = pixels.filter fun i => slotValid r.tiledim i :=
  List.filter_congr fun _ hi => getD_map_pixels (slotValid r.tiledim) (List.mem_range.1 hi) false

/-! ### Vectors and weights -/

theorem pixChannels_eq (r : RwRegs) (i : Fin 16) : pixChannels r i =
    [r.pixLo[i].toNat % 2 ^ 16, r.pixLo[i].toNat / 2 ^ 16, r.pixHi[i].toNat % 2 ^ 16, r.pixHi[i].toNat / 2 ^ 16] := by
  simp [pixChannels, fieldOf, bitsOf]
  omega

theorem pixChannels_lt (r : RwRegs) (i : Fin 16) : ∀ c ∈ pixChannels r i, c < 2 ^ 16 := by
  rw [pixChannels_eq]
  simp only [List.forall_mem_cons, List.not_mem_nil, false_implies, implies_true, and_true]
  omega

theorem impWeight_eq (r : RwRegs) (i : Fin 16) : impWeight r i = r.imp[i].toNat % 256 := by
  simp [impWeight, fieldOf_zero]

/-- The alpha of the BC7 vector: 255 under ALPHA None, else the low byte of C3 (41_tile.md R181, R183). -/
def sourceAlpha (r : RwRegs) (i : Fin 16) : Nat :=
  if cfgAlpha r.cfg = 0 then 255 else r.pixHi[i].toNat / 2 ^ 16 % 256

theorem sourceAlpha_lt (r : RwRegs) (i : Fin 16) : sourceAlpha r i < 256 := by
  unfold sourceAlpha
  split <;> omega

theorem sourceVector_eq (r : RwRegs) (i : Fin 16) : sourceVector r i =
    [((r.pixLo[i].toNat % 256 : Nat) : Int), ((r.pixLo[i].toNat / 2 ^ 16 % 256 : Nat) : Int),
      ((r.pixHi[i].toNat % 256 : Nat) : Int), (sourceAlpha r i : Int)] := by
  have hlow (n : Nat) : n % 2 ^ 16 % 2 ^ 8 = n % 256 := Nat.mod_mod_of_dvd n (by decide)
  have hbyte (n : Nat) : bitsOf n 0 8 = n % 2 ^ 8 := by simp [bitsOf]
  unfold sourceVector sourceAlpha
  rw [pixChannels_eq]
  simp only [List.map_cons, List.map_nil, hbyte, hlow]
  split <;> rfl

section

variable {r : RwRegs} (hfmt : cfgFormat r.cfg = .bc7)
include hfmt

theorem tileVector_bc7 (i : Nat) : tileVector r i = sourceVector r i := by
  rw [tileVector, hfmt]

theorem channelWeights_bc7 (i : Fin 16) : channelWeights r i =
    if cfgAlpha r.cfg = 1 then [sourceAlpha r i ^ 2, sourceAlpha r i ^ 2, sourceAlpha r i ^ 2, 65025]
    else [1, 1, 1, 1] := by
  rw [channelWeights, hfmt, sourceVector_eq]
  rfl

end

section

variable {r : RwRegs} (hfmt : cfgFormat r.cfg = .bc6h)
include hfmt

theorem tileVector_bc6h (i : Nat) : tileVector r i = workingVector r i := by
  rw [tileVector, hfmt]

theorem channelWeights_bc6h (i : Nat) : channelWeights r i = [1, 1, 1] := by
  rw [channelWeights, hfmt]

end

theorem workingVector_eq (r : RwRegs) (i : Fin 16) : workingVector r i =
    [h2wValue (cfgSigned r.cfg) (r.pixLo[i].toNat % 2 ^ 16), h2wValue (cfgSigned r.cfg) (r.pixLo[i].toNat / 2 ^ 16),
      h2wValue (cfgSigned r.cfg) (r.pixHi[i].toNat % 2 ^ 16)] := by
  rw [workingVector, pixChannels_eq]
  rfl

/-! ### The importance map (41_tile.md R185) -/

/-- The grid neighbours of a slot: next to it in its row, or in its column. -/
theorem mem_neighbours_iff : ∀ i n : Fin 16, n.val ∈ neighbours i ↔
    (n.val / 4 = i.val / 4 ∧ (n.val % 4 + 1 = i.val % 4 ∨ n.val % 4 = i.val % 4 + 1)) ∨
    (n.val % 4 = i.val % 4 ∧ (n.val / 4 + 1 = i.val / 4 ∨ n.val / 4 = i.val / 4 + 1)) := by
  decide

theorem neighbours_lt : ∀ i : Fin 16, ∀ n ∈ neighbours i, n < 16 := by decide

theorem hasTwin_iff (r : RwRegs) (i : Fin 16) : hasTwin r i = true ↔
    ∃ n : Fin 16, ((n.val / 4 = i.val / 4 ∧ (n.val % 4 + 1 = i.val % 4 ∨ n.val % 4 = i.val % 4 + 1)) ∨
        (n.val % 4 = i.val % 4 ∧ (n.val / 4 + 1 = i.val / 4 ∨ n.val / 4 = i.val / 4 + 1))) ∧
      n.val % 4 < tileW r.tiledim ∧ n.val / 4 < tileH r.tiledim ∧ tileVector r n = tileVector r i := by
  simp only [← mem_neighbours_iff, hasTwin, List.any_eq_true, slotValid, Bool.and_eq_true, decide_eq_true_eq,
    beq_iff_eq, and_assoc]
  exact ⟨fun ⟨n, hn, h⟩ => ⟨⟨n, neighbours_lt i n hn⟩, hn, h⟩, fun ⟨n, hn, h⟩ => ⟨n, hn, h⟩⟩

/-- The multiplier counts exactly at a slot with a twin, under IMPMAP. -/
theorem effectiveWeight_cases (boost : Nat) (r : RwRegs) (i : Fin 16) {twin : Prop}
    (htwin : twin ↔ hasTwin r i = true) :
    (cfgImpMap r.cfg = true ∧ twin → effectiveWeight boost r i = r.imp[i].toNat % 256 * boost) ∧
    (¬(cfgImpMap r.cfg = true ∧ twin) → effectiveWeight boost r i = r.imp[i].toNat % 256) := by
  rw [htwin, ← Bool.and_eq_true, effectiveWeight, impWeight_eq]
  exact ⟨fun h => by rw [if_pos h], fun h => by rw [if_neg h, Nat.mul_one]⟩

theorem effectiveWeight_le {boost : Nat} (hboost : boost ≤ 5) (r : RwRegs) (i : Fin 16) :
    effectiveWeight boost r i ≤ 1275 := by
  obtain ⟨hon, hoff⟩ := effectiveWeight_cases boost r i Iff.rfl
  have himp : r.imp[i].toNat % 256 ≤ 255 := by omega
  by_cases h : cfgImpMap r.cfg = true ∧ hasTwin r i = true
  · rw [hon h]; exact Nat.mul_le_mul himp hboost
  · rw [hoff h]; omega

/-! ### Rotation (48_packer_bc7.md R367) -/

/-- Rotation swaps two channels, so a sum over the channels may undo it on one list and do it on the others. -/
theorem sum_rotate (h : Nat → Nat → Int → Nat) {w : List Nat} {q : List Nat} {v : List Int} (hw : w.length = 4)
    (hq : q.length = 4) (hv : v.length = 4) {rot : Nat} (hrot : rot < 4) :
    ((List.range 4).map fun ch => h ((rotate w rot).getD ch 0) (q.getD ch 0) ((rotate v rot).getD ch 0)).sum =
      ((List.range 4).map fun ch => h (w.getD ch 0) ((rotate q rot).getD ch 0) (v.getD ch 0)).sum := by
  obtain ⟨w0, w1, w2, w3, rfl⟩ := List.length_eq_four.1 hw
  obtain ⟨q0, q1, q2, q3, rfl⟩ := List.length_eq_four.1 hq
  obtain ⟨v0, v1, v2, v3, rfl⟩ := List.length_eq_four.1 hv
  interval_cases rot <;> simp [rotate, List.range_succ] <;> ring

theorem length_rotate {α : Type} [Inhabited α] (v : List α) (rot : Nat) : (rotate v rot).length = v.length := by
  unfold rotate
  split <;> simp

end Sys2Proof.Machine

/-! SUPPORT. A BC7 candidate (47_mode_selector.md R323) and what the reference decoder makes of its fields
(48_packer_bc7.md R370). -/

namespace Sys2Proof.Machine

/-! ### The mode table and the positions -/

/-- What the proofs need of a row of the BC7 mode table (48_packer_bc7.md R360). -/
theorem bc7Mode_facts : ∀ m < 8, 0 < (bc7Mode m).ns ∧ (bc7Mode m).ns < 4 ∧ bc7Shapes m ≤ 64 ∧
    (bc7Mode m).ib ∈ [2, 3, 4] ∧ (bc7SeparateAlpha m = true → (bc7Mode m).ib2 ∈ [2, 3, 4]) := by
  decide

/-- A mode whose alpha stands apart has three colour channels and one region (48_packer_bc7.md R360). -/
theorem bc7SeparateAlpha_facts : ∀ m < 8, bc7SeparateAlpha m = true →
    bc7FourChannels m = false ∧ (bc7Mode m).ns = 1 := by
  decide

theorem mem_positions7 {m : Nat} {p : Position} : p ∈ positions7 m ↔ p.mode = m ∧ p.shape < bc7Shapes m ∧
    p.rot < (if bc7SeparateAlpha m then 4 else 1) ∧ p.isb < (if m = 4 then 2 else 1) := by
  obtain ⟨pm, ps, pr, pi⟩ := p
  simp only [positions7, List.mem_flatMap, List.mem_map, List.mem_range, Position.mk.injEq]
  constructor
  · rintro ⟨s, hs, rot, hrot, isb, hisb, rfl, rfl, rfl, rfl⟩
    exact ⟨rfl, hs, hrot, hisb⟩
  · rintro ⟨rfl, hs, hrot, hisb⟩
    exact ⟨ps, hs, pr, hrot, pi, hisb, rfl, rfl, rfl, rfl⟩

/-! ### A channel of the decoder, before the rotation -/

/-- The colour index of pixel `i` in a block, with its width (48_packer_bc7.md R364). -/
def colourIndex7 (m : Nat) (b : Block7) (i : Nat) : Nat × Nat :=
  if b.isb = 0 then (b.idx1.getD i 0, (bc7Mode m).ib) else (b.idx2.getD i 0, (bc7Mode m).ib2)

/-- The alpha index of pixel `i` in a block, with its width (48_packer_bc7.md R364). -/
def alphaIndex7 (m : Nat) (b : Block7) (i : Nat) : Nat × Nat :=
  if bc7SeparateAlpha m then
    if b.isb = 0 then (b.idx2.getD i 0, (bc7Mode m).ib2) else (b.idx1.getD i 0, (bc7Mode m).ib)
  else colourIndex7 m b i

/-- Channel `ch` of pixel `i` as decode7 interpolates it (48_packer_bc7.md R370). -/
def channel7 (m : Nat) (b : Block7) (i ch : Nat) : Int :=
  let k := region (bc7Mode m).ns b.shape i
  let sel := if ch = 3 then alphaIndex7 m b i else colourIndex7 m b i
  lerp (endpoint7 m b k 0 ch) (endpoint7 m b k 1 ch) (weight sel.2 sel.1)

theorem pixel7_eq (m : Nat) (b : Block7) (i : Nat) :
    pixel7 m b i = rotate ((List.range 4).map fun ch => (channel7 m b i ch).toNat) b.rot := rfl

/-! ### The fields of a candidate -/

/-- The codes of one end of a pair: A, then B. -/
def Ends.codes (E : Ends) (e : Nat) : List Int := if e = 0 then E.a else E.b

/-- The p-bit of one end of a pair: A's, then B's. -/
def Ends.pbit (E : Ends) (e : Nat) : Nat := if e = 0 then E.pA else E.pB

section

variable (c : Candidate) {k e : Nat} (hk : k < c.ends.length) (he : e < 2)
include hk he

/-- The codes stand in the block by channel, then region, then end (48_packer_bc7.md R361 item 4). -/
theorem codeAt7_candidateBlock7 {ch : Nat} (hlen : c.ends.length = (bc7Mode c.mode).ns)
    (hch : ch < bc7Channels c.mode) :
    codeAt7 c.mode (candidateBlock7 c) k e ch = ((c.ends[k].codes e).getD ch 0).toNat := by
  have hplace : (ch * (bc7Mode c.mode).ns + k) * 2 + e = ch * ((bc7Mode c.mode).ns * 2) + (k * 2 + e) := by ring
  rw [codeAt7, hplace]
  refine (getD_flatMap_of_length (n := (bc7Mode c.mode).ns * 2) 0 (fun _ _ => ?_) (by simpa using hch)
    (by omega)).trans ?_
  · simp [hlen]
  · rw [List.getElem_range, getD_flatMap_of_length (n := 2) 0 (fun _ _ => rfl) hk he]
    interval_cases e <;> rfl

/-- The p-bits stand in the block by region, then end, or once per region where the ends share one
(48_packer_bc7.md R361 item 6). -/
theorem pbitAt7_candidateBlock7 (hpb : (bc7Mode c.mode).epb = 1 ∨ (bc7Mode c.mode).spb = 1)
    (hshared : (bc7Mode c.mode).epb ≠ 1 → c.ends[k].pA = c.ends[k].pB) :
    pbitAt7 c.mode (candidateBlock7 c) k e = c.ends[k].pbit e := by
  unfold pbitAt7 candidateBlock7
  by_cases hepb : (bc7Mode c.mode).epb = 1
  · simp only [if_pos hepb, Nat.mul_comm 2 k]
    rw [getD_flatMap_of_length (n := 2) 0 (fun _ _ => rfl) hk he]
    interval_cases e <;> rfl
  · have hboth : c.ends[k].pbit e = c.ends[k].pA := by
      unfold Ends.pbit
      split
      · rfl
      · exact (hshared hepb).symm
    simp only [if_neg hepb, if_pos (hpb.resolve_left hepb), hboth]
    simp [hk]

/-- The decoder reconstructs the candidate's endpoints (48_packer_bc7.md R370, 45_palette.md R282). -/
theorem endpoint7_candidateBlock7 {ch : Nat} (hlen : c.ends.length = (bc7Mode c.mode).ns)
    (hch : ch < bc7Channels c.mode) (hcodes : (c.ends[k].codes e).length = bc7Channels c.mode)
    (hshared : (bc7Mode c.mode).spb = 1 → (bc7Mode c.mode).epb ≠ 1 → c.ends[k].pA = c.ends[k].pB) :
    endpoint7 c.mode (candidateBlock7 c) k e ch =
      (recon7 (bc7Mode c.mode) (c.ends[k].codes e) (c.ends[k].pbit e)).getD ch 0 := by
  have hlt : ch < (c.ends[k].codes e).length := by omega
  have hcode : (c.ends[k].codes e).getD ch 0 = (c.ends[k].codes e)[ch] := List.getD_eq_getElem _ _ hlt
  rw [recon7, List.getD_eq_getElem _ _ (by simpa using hlt), List.getElem_map, endpoint7,
    codeAt7_candidateBlock7 c hk he hlen hch, hcode, if_pos hch]
  by_cases hpb : (bc7Mode c.mode).epb = 1 ∨ (bc7Mode c.mode).spb = 1
  · rw [pbitAt7_candidateBlock7 c hk he hpb fun hepb => hshared (hpb.resolve_left hepb) hepb]
  · have hnone : ((bc7Mode c.mode).epb = 1 || (bc7Mode c.mode).spb = 1) = false := by simpa using hpb
    simp [hnone]

end

section

variable (c : Candidate) (hisb : c.isb = 0 ∨ c.mode = 4 ∧ c.isb = 1)
include hisb

/-- The block's colour indices are the candidate's (48_packer_bc7.md R364, R368). -/
theorem colourIndex7_candidateBlock7 (i : Nat) :
    colourIndex7 c.mode (candidateBlock7 c) i = (c.idx1.getD i 0, colourBits c.mode c.isb) := by
  rcases hisb with h | ⟨hm, h⟩ <;> simp [colourIndex7, candidateBlock7, colourBits, *]

theorem alphaIndex7_candidateBlock7 (hsep : bc7SeparateAlpha c.mode = true) (i : Nat) :
    alphaIndex7 c.mode (candidateBlock7 c) i = (c.idx2.getD i 0, alphaBits c.mode c.isb) := by
  rw [alphaIndex7, if_pos hsep]
  rcases hisb with h | ⟨hm, h⟩ <;> simp [candidateBlock7, alphaBits, *]

end

end Sys2Proof.Machine

/-! SUPPORT. The error of a BC7 candidate (47_mode_selector.md R323): pixel by pixel it is the distance of the decoder's
channels from the tile's (46_index_assign.md R306). -/

namespace Sys2Proof.Machine

/-! ### Palettes -/

theorem length_recon7 (md : Bc7Mode) (codes : List Int) (P : Nat) : (recon7 md codes P).length = codes.length := by
  simp [recon7]

/-- The comparator on a palette that interpolates two endpoints channel by channel: its error is the distance of the
interpolated channels (46_index_assign.md R300, 45_palette.md R282, R283). -/
theorem nearestEntry_interpolated (g : Nat → Int → Int → Int) {b n : Nat} (hb : 0 < b) {ww : List Nat}
    {v eA eB : List Int} (hww : ww.length = n) (hv : v.length = n) (hA : eA.length = n) (hB : eB.length = n)
    (anchor : Bool) {j e : Nat}
    (hnearest : nearestEntry ww v ((List.range (2 ^ b)).map fun j => List.zipWith (g j) eA eB) (indexLimit b anchor) =
      (j, e)) :
    e = ((List.range n).map fun ch =>
      ww.getD ch 0 * (g j (eA.getD ch 0) (eB.getD ch 0) - v.getD ch 0).natAbs ^ 2).sum := by
  obtain ⟨hpos, hle⟩ := indexLimit_range hb anchor
  obtain ⟨hlt, herr, -⟩ := nearestEntry_spec hpos (by simpa using hle) hnearest
  rw [getD_map_range _ (by omega)] at herr
  rw [herr, entryError_eq_sum hww hv (by simp [hA, hB])]
  refine congrArg List.sum (List.map_congr_left fun ch hch => ?_)
  have hch : ch < n := List.mem_range.1 hch
  rw [getD_zipWith _ (by omega) (by omega) 0 0]

/-! ### The choices of an evaluation -/

/-- The colour palette of a pair of the candidate at `p` (47_mode_selector.md R323). -/
def colourPalette7 (p : Position) (E : Ends) : List (List Int) :=
  palette7 (colourBits p.mode p.isb) (recon7 (bc7Mode p.mode) (E.codes 0) (E.pbit 0))
    (recon7 (bc7Mode p.mode) (E.codes 1) (E.pbit 1))

/-- The colour index and error of pixel `i` as one of region `k` (47_mode_selector.md R323). -/
def colourChoice7 (f : Fitter) (t : Tile) (p : Position) (k i : Nat) : Nat × Nat :=
  nearestEntry ((rotatedWeights t p.rot i).take (bc7Channels p.mode))
    ((rotatedVector t p.rot i).take (bc7Channels p.mode)) (colourPalette7 p (evalRegion7 f t p k).1)
    (indexLimit (colourBits p.mode p.isb) ((anchors (bc7Mode p.mode).ns p.shape).contains i))

/-- The alpha index and error of pixel `i` in modes 4 and 5 (47_mode_selector.md R323). -/
def alphaChoice7 (f : Fitter) (t : Tile) (p : Position) (i : Nat) : Nat × Nat :=
  nearestEntry [(rotatedWeights t p.rot i).getD 3 0] [(rotatedVector t p.rot i).getD 3 0]
    (palette7 (alphaBits p.mode p.isb) [(expand ((evalAlpha7 f t p).1.getD 0 0) (bc7Mode p.mode).ab : Int)]
      [(expand ((evalAlpha7 f t p).1.getD 1 0) (bc7Mode p.mode).ab : Int)])
    (indexLimit (alphaBits p.mode p.isb) (i == 0))

/-- The colour assignment of all regions. -/
def colourAssignment7 (f : Fitter) (t : Tile) (p : Position) : List (Nat × Nat × Nat) :=
  ((List.range (bc7Mode p.mode).ns).map (evalRegion7 f t p)).flatMap fun r => r.2

section

variable (f : Fitter) (t : Tile) (p : Position)

theorem evalRegion7_assignment (k : Nat) : (evalRegion7 f t p k).2 =
    (regionPixels t (bc7Mode p.mode).ns p.shape k).map fun i => (i, colourChoice7 f t p k i) := rfl

theorem evalAlpha7_assignment : (evalAlpha7 f t p).2 =
    (regionPixels t (bc7Mode p.mode).ns p.shape 0).map fun i => (i, alphaChoice7 f t p i) := rfl

/-- The candidate's fields but for the alpha ones (47_mode_selector.md R321, R323). -/
theorem evalBc7_fields : (evalBc7 f t p).2.mode = p.mode ∧ (evalBc7 f t p).2.shape = p.shape ∧
    (evalBc7 f t p).2.rot = p.rot ∧ (evalBc7 f t p).2.isb = p.isb ∧
    (evalBc7 f t p).2.ends = ((List.range (bc7Mode p.mode).ns).map fun k => (evalRegion7 f t p k).1) ∧
    (evalBc7 f t p).2.idx1 = indexArray (colourAssignment7 f t p) := by
  unfold evalBc7 colourAssignment7
  dsimp only
  rw [List.map_map]
  split_ifs <;> exact ⟨rfl, rfl, rfl, rfl, rfl, rfl⟩

theorem evalBc7_alpha (hsep : bc7SeparateAlpha p.mode = true) :
    (evalBc7 f t p).2.alphas = (evalAlpha7 f t p).1 ∧ (evalBc7 f t p).2.idx2 = indexArray (evalAlpha7 f t p).2 := by
  unfold evalBc7
  dsimp only
  rw [if_pos hsep]
  exact ⟨rfl, rfl⟩

/-- The candidate's error: the colour error, and that of alpha where the colour endpoints do not hold it
(46_index_assign.md R302, R303). -/
theorem evalBc7_error : (evalBc7 f t p).1 = assignmentError (colourAssignment7 f t p) +
    if bc7SeparateAlpha p.mode then assignmentError (evalAlpha7 f t p).2
    else if bc7FourChannels p.mode then 0 else opaqueAlphaError t p := by
  unfold evalBc7 colourAssignment7
  dsimp only
  split_ifs <;> rfl

/-- A shared p-bit is the p-bit of both ends (44_quantizer.md R257). -/
theorem evalRegion7_shared (k : Nat) (hspb : (bc7Mode p.mode).spb = 1) (hepb : (bc7Mode p.mode).epb ≠ 1) :
    (evalRegion7 f t p k).1.pA = (evalRegion7 f t p k).1.pB := by
  simp only [evalRegion7, quantizePair7, if_neg hepb, if_pos hspb]

theorem evalRegion7_length (hf : TotalFitter f) (k : Nat) {e : Nat} :
    ((evalRegion7 f t p k).1.codes e).length = bc7Channels p.mode := by
  unfold evalRegion7 quantizePair7 Ends.codes fitPixels
  dsimp only
  split_ifs <;> simp [pbitCodes, hf _ _ _]

end

/-! ### The decoder on the candidate's block -/

section

variable {f : Fitter} {t : Tile} {p : Position} (hf : TotalFitter f) (hm : p.mode < 8) (hp : p ∈ positions7 p.mode)

/-- The block of the candidate at `p`. -/
def evalBlock7 (f : Fitter) (t : Tile) (p : Position) : Block7 := candidateBlock7 (evalBc7 f t p).2

theorem evalBlock7_shape : (evalBlock7 f t p).shape = p.shape := by
  obtain ⟨-, hshape, -⟩ := evalBc7_fields f t p
  exact hshape

theorem evalBlock7_rot : (evalBlock7 f t p).rot = p.rot := by
  obtain ⟨-, -, hrot, -⟩ := evalBc7_fields f t p
  exact hrot

include hf in
theorem endpoint7_evalBlock7 {k e ch : Nat} (hk : k < (bc7Mode p.mode).ns) (he : e < 2)
    (hch : ch < bc7Channels p.mode) : endpoint7 p.mode (evalBlock7 f t p) k e ch =
      (recon7 (bc7Mode p.mode) ((evalRegion7 f t p k).1.codes e) ((evalRegion7 f t p k).1.pbit e)).getD ch 0 := by
  obtain ⟨hmode, -, -, -, hends, -⟩ := evalBc7_fields f t p
  have hlen : (evalBc7 f t p).2.ends.length = (bc7Mode p.mode).ns := by simp [hends]
  have hk' : k < (evalBc7 f t p).2.ends.length := by omega
  have hend : (evalBc7 f t p).2.ends[k] = (evalRegion7 f t p k).1 := by simp [hends]
  have hdecoded := endpoint7_candidateBlock7 (evalBc7 f t p).2 (ch := ch) hk' he
  rw [hmode, hend] at hdecoded
  exact hdecoded hlen hch (evalRegion7_length f t p hf k) (evalRegion7_shared f t p k)

/-- Where alpha stands apart the decoder expands the candidate's alpha codes (48_packer_bc7.md R370). -/
theorem endpoint7_evalBlock7_alpha (hsep : bc7SeparateAlpha p.mode = true) (hm : p.mode < 8) (k e : Nat) :
    endpoint7 p.mode (evalBlock7 f t p) k e 3 = expand ((evalAlpha7 f t p).1.getD e 0) (bc7Mode p.mode).ab := by
  have hch : ¬ 3 < bc7Channels p.mode := by simp [bc7Channels, (bc7SeparateAlpha_facts _ hm hsep).1]
  have halphas : (evalBlock7 f t p).alphas = (evalAlpha7 f t p).1 := (evalBc7_alpha f t p hsep).1
  rw [endpoint7, if_neg hch, if_pos hsep, halphas]

/-- A mode without alpha decodes alpha as 255 (48_packer_bc7.md R370). -/
theorem channel7_opaque {m : Nat} (hsep : bc7SeparateAlpha m = false) (hfour : bc7FourChannels m = false)
    (b : Block7) (i : Nat) : channel7 m b i 3 = 255 := by
  have hend (k e : Nat) : endpoint7 m b k e 3 = 255 := by simp [endpoint7, bc7Channels, hsep, hfour]
  rw [channel7, hend, hend, lerp]
  omega

include hp in
/-- The index selection bit is set only in mode 4 (47_mode_selector.md R322). -/
theorem isb_of_mem_positions7 : p.isb = 0 ∨ p.mode = 4 ∧ p.isb = 1 := by
  obtain ⟨-, -, -, hisb⟩ := mem_positions7.1 hp
  split at hisb <;> omega

include hm hp in
theorem shape_lt_of_mem_positions7 : p.shape < 64 := by
  obtain ⟨-, hshape, -⟩ := mem_positions7.1 hp
  obtain ⟨-, -, hshapes, -⟩ := bc7Mode_facts _ hm
  exact hshape.trans_le hshapes

include hp in
theorem rot_lt_of_mem_positions7 : p.rot < 4 := by
  obtain ⟨-, -, hrot, -⟩ := mem_positions7.1 hp
  split at hrot <;> omega

include hm hp in
theorem colourAssignment7_perm : (colourAssignment7 f t p).Perm ((validPixels t).map fun i =>
    (i, colourChoice7 f t p (region (bc7Mode p.mode).ns p.shape i) i)) := by
  obtain ⟨hpos, hns, -⟩ := bc7Mode_facts _ hm
  rw [colourAssignment7, List.flatMap_map]
  exact assignRegions_perm t hns hpos (shape_lt_of_mem_positions7 hm hp) (colourChoice7 f t p)

include hm in
theorem alphaAssignment7_perm (hsep : bc7SeparateAlpha p.mode = true) :
    (evalAlpha7 f t p).2.Perm ((validPixels t).map fun i => (i, alphaChoice7 f t p i)) := by
  have hall : regionPixels t (bc7Mode p.mode).ns p.shape 0 = validPixels t := by
    rw [regionPixels_eq, (bc7SeparateAlpha_facts _ hm hsep).2]
    exact List.filter_eq_self.2 fun i _ => rfl
  rw [evalAlpha7_assignment, hall]

include hm hp in
theorem colourIndex7_evalBlock7 {i : Nat} (hi : i ∈ validPixels t) : colourIndex7 p.mode (evalBlock7 f t p) i =
    ((colourChoice7 f t p (region (bc7Mode p.mode).ns p.shape i) i).1, colourBits p.mode p.isb) := by
  obtain ⟨hmode, -, -, hisb, -, hidx⟩ := evalBc7_fields f t p
  have hindex := colourIndex7_candidateBlock7 (evalBc7 f t p).2 (by
    rw [hmode, hisb]; exact isb_of_mem_positions7 hp) i
  rwa [hmode, hisb, hidx, indexArray_of_perm (colourAssignment7_perm hm hp) (lt_of_mem_validPixels hi) hi] at hindex

include hm hp in
theorem alphaIndex7_evalBlock7 (hsep : bc7SeparateAlpha p.mode = true) {i : Nat} (hi : i ∈ validPixels t) :
    alphaIndex7 p.mode (evalBlock7 f t p) i = ((alphaChoice7 f t p i).1, alphaBits p.mode p.isb) := by
  obtain ⟨hmode, -, -, hisb, -, -⟩ := evalBc7_fields f t p
  have hidx := (evalBc7_alpha f t p hsep).2
  have hindex := alphaIndex7_candidateBlock7 (evalBc7 f t p).2 (by
    rw [hmode, hisb]; exact isb_of_mem_positions7 hp) (by rwa [hmode]) i
  rwa [hmode, hisb, hidx, indexArray_of_perm (alphaAssignment7_perm hm hsep) (lt_of_mem_validPixels hi) hi] at hindex

theorem colourBits_legal (hm : p.mode < 8) : colourBits p.mode p.isb ∈ [2, 3, 4] := by
  obtain ⟨-, -, -, hib, hib2⟩ := bc7Mode_facts _ hm
  unfold colourBits
  split
  next h => exact hib2 (by simp at h; simp [h.1, bc7SeparateAlpha])
  next => exact hib

theorem alphaBits_legal (hm : p.mode < 8) (hsep : bc7SeparateAlpha p.mode = true) :
    alphaBits p.mode p.isb ∈ [2, 3, 4] := by
  obtain ⟨-, -, -, hib, hib2⟩ := bc7Mode_facts _ hm
  unfold alphaBits
  split
  · exact hib
  · exact hib2 hsep

theorem bits_pos {b : Nat} (hb : b ∈ [2, 3, 4]) : 0 < b := by
  fin_cases hb <;> decide

end

/-! ### The error of a pixel -/

/-- The weighted squared distance of channel `ch` of pixel `i`, as decoded before the rotation, from the rotated tile
(46_index_assign.md R306). -/
def channelError7 (f : Fitter) (t : Tile) (p : Position) (i ch : Nat) : Nat :=
  (rotatedWeights t p.rot i).getD ch 0 *
    (channel7 p.mode (evalBlock7 f t p) i ch - (rotatedVector t p.rot i).getD ch 0).natAbs ^ 2

section

variable {f : Fitter} {t : Tile} {p : Position} (hf : TotalFitter f) (hm : p.mode < 8) (hp : p ∈ positions7 p.mode)
  {i : Nat} (hi : i ∈ validPixels t)
include hf hm hp hi

/-- The comparator's colour error is that of the decoded colour channels. -/
theorem colourChoice7_error (hw : (rotatedWeights t p.rot i).length = 4)
    (hv : (rotatedVector t p.rot i).length = 4) :
    (colourChoice7 f t p (region (bc7Mode p.mode).ns p.shape i) i).2 =
      ((List.range (bc7Channels p.mode)).map (channelError7 f t p i)).sum := by
  have hn : bc7Channels p.mode ≤ 4 := by unfold bc7Channels; split <;> omega
  obtain ⟨hpos, hns, -⟩ := bc7Mode_facts _ hm
  have hregion := region_lt _ hns hpos _ (shape_lt_of_mem_positions7 hm hp) i (lt_of_mem_validPixels hi)
  rw [nearestEntry_interpolated (n := bc7Channels p.mode)
    (fun j x y => lerp x y (weight (colourBits p.mode p.isb) j)) (bits_pos (colourBits_legal (p := p) hm))
    (by simp [hw, hn]) (by simp [hv, hn]) ((length_recon7 _ _ _).trans (evalRegion7_length f t p hf _))
    ((length_recon7 _ _ _).trans (evalRegion7_length f t p hf _)) _ (Prod.mk.eta (p := colourChoice7 f t p _ i)).symm]
  congr 1
  refine List.map_congr_left fun ch hch => ?_
  have hch : ch < bc7Channels p.mode := List.mem_range.1 hch
  have hsel : (if ch = 3 then alphaIndex7 p.mode (evalBlock7 f t p) i else colourIndex7 p.mode (evalBlock7 f t p) i) =
      colourIndex7 p.mode (evalBlock7 f t p) i := by
    split
    next h3 =>
      refine if_neg fun hsep => ?_
      simp [bc7Channels, (bc7SeparateAlpha_facts _ hm hsep).1] at hch
      omega
    next => rfl
  rw [channelError7, channel7, evalBlock7_shape, hsel, colourIndex7_evalBlock7 hm hp hi,
    endpoint7_evalBlock7 hf hregion (by decide) hch, endpoint7_evalBlock7 hf hregion (by decide) hch]
  simp [hch]

omit hf in
/-- The comparator's alpha error is that of the decoded alpha. -/
theorem alphaChoice7_error (hsep : bc7SeparateAlpha p.mode = true) :
    (alphaChoice7 f t p i).2 = channelError7 f t p i 3 := by
  rw [nearestEntry_interpolated (n := 1) (fun j x y => lerp x y (weight (alphaBits p.mode p.isb) j))
    (bits_pos (alphaBits_legal (p := p) hm hsep)) rfl rfl rfl rfl _
    (Prod.mk.eta (p := alphaChoice7 f t p i)).symm]
  rw [channelError7, channel7, if_pos rfl, alphaIndex7_evalBlock7 hm hp hsep hi,
    endpoint7_evalBlock7_alpha hsep hm, endpoint7_evalBlock7_alpha hsep hm]
  rfl

end

section

variable {f : Fitter} {t : Tile} {p : Position} (hf : TotalFitter f) (hm : p.mode < 8) (hp : p ∈ positions7 p.mode)
include hf hm hp

/-- The error of a BC7 candidate, pixel by pixel and channel by channel: colour and alpha add up to the four channels
(46_index_assign.md R302, R303, R306). -/
theorem evalBc7_error_eq_sum (hw : ∀ i ∈ validPixels t, (rotatedWeights t p.rot i).length = 4)
    (hv : ∀ i ∈ validPixels t, (rotatedVector t p.rot i).length = 4) : (evalBc7 f t p).1 =
      ((validPixels t).map fun i => ((List.range 4).map (channelError7 f t p i)).sum).sum := by
  have hcolour : assignmentError (colourAssignment7 f t p) =
      ((validPixels t).map fun i => ((List.range (bc7Channels p.mode)).map (channelError7 f t p i)).sum).sum := by
    rw [assignmentError_of_perm (colourAssignment7_perm hm hp)]
    exact congrArg List.sum (List.map_congr_left fun i hi => colourChoice7_error hf hm hp hi (hw i hi) (hv i hi))
  by_cases hfour : bc7FourChannels p.mode = true
  · have hsep : ¬ bc7SeparateAlpha p.mode = true := fun h => by
      simp [(bc7SeparateAlpha_facts _ hm h).1] at hfour
    rw [evalBc7_error, if_neg hsep, if_pos hfour, hcolour, bc7Channels, if_pos hfour]
    rfl
  · have halpha : (if bc7SeparateAlpha p.mode then assignmentError (evalAlpha7 f t p).2
        else if bc7FourChannels p.mode then 0 else opaqueAlphaError t p) =
        ((validPixels t).map fun i => channelError7 f t p i 3).sum := by
      split
      next hsep =>
        rw [assignmentError_of_perm (alphaAssignment7_perm hm hsep)]
        exact congrArg List.sum (List.map_congr_left fun i hi => alphaChoice7_error hm hp hi hsep)
      next hsep =>
        refine congrArg List.sum (List.map_congr_left fun i _ => ?_)
        rw [channelError7, channel7_opaque (Bool.eq_false_iff.2 hsep) (Bool.eq_false_iff.2 hfour)]
    rw [evalBc7_error, hcolour, halpha, bc7Channels, if_neg hfour, ← List.sum_map_add]
    exact congrArg List.sum (List.map_congr_left fun i _ => (List.sum_range_succ (channelError7 f t p i) 3).symm)

end

end Sys2Proof.Machine

/-! SUPPORT. The BC7 error as the distance of the decoded block from the tile (46_index_assign.md R306), and the range
of its terms (R303). -/

namespace Sys2Proof.Machine

/-! ### The range of the decoded channels -/

theorem weight_le_max (b j : Nat) : weight b j ≤ 64 := by
  have htable : ∀ x ∈ weightTable b, x ≤ 64 := by
    unfold weightTable
    split_ifs <;> decide
  rcases Nat.lt_or_ge j (weightTable b).length with hlt | hge
  · rw [weight, List.getD_eq_getElem _ _ hlt]
    exact htable _ (List.getElem_mem hlt)
  · rw [weight, List.getD_eq_default _ _ hge]
    exact Nat.zero_le _

theorem argMinRat_map_range_lt (g : Nat → Rat) {k : Nat} (hk : 0 < k) : argMinRat ((List.range k).map g) < k := by
  have hne : (List.range k).map g ≠ [] := by simpa using hk.ne'
  simpa using (argMinRat_spec _ hne).1

theorem q7_lt (v : Rat) (n : Nat) : q7 v n < 2 ^ n := argMinRat_map_range_lt _ (Nat.two_pow_pos n)

theorem q7p_lt (v : Rat) (n P : Nat) : q7p v n P < 2 ^ n := argMinRat_map_range_lt _ (Nat.two_pow_pos n)

theorem endpointPbit_lt (e : List Rat) (n : Nat) : endpointPbit e n < 2 := by
  unfold endpointPbit
  split <;> decide

theorem sharedPbit_lt (a b : List Rat) (n : Nat) : sharedPbit a b n < 2 := by
  unfold sharedPbit
  split <;> decide

theorem toNat_lt_of_mem_map {g : Rat → Nat} {k : Nat} (hg : ∀ v, g v < k) (l : List Rat) :
    ∀ x ∈ l.map fun v => (g v : Int), x.toNat < k := by
  intro x hx
  obtain ⟨v, -, rfl⟩ := List.mem_map.1 hx
  exact hg v

/-- A quantized pair holds codes of its mode's width and p-bits (47_mode_selector.md R323). -/
theorem quantizePair7_range (md : Bc7Mode) (a b : List Rat) (e : Nat) :
    (∀ x ∈ (quantizePair7 md a b).codes e, x.toNat < 2 ^ md.cb) ∧ (quantizePair7 md a b).pbit e < 2 := by
  have hpcodes (l : List Rat) (P : Nat) : ∀ x ∈ pbitCodes l md.cb P, x.toNat < 2 ^ md.cb :=
    toNat_lt_of_mem_map (fun v => q7p_lt v md.cb P) l
  have hcodes := toNat_lt_of_mem_map fun v => q7_lt v md.cb
  unfold quantizePair7 Ends.codes Ends.pbit
  by_cases hepb : md.epb = 1
  · simp only [if_pos hepb]
    split <;> exact ⟨hpcodes _ _, endpointPbit_lt _ _⟩
  · by_cases hspb : md.spb = 1
    · simp only [if_neg hepb, if_pos hspb]
      split <;> exact ⟨hpcodes _ _, sharedPbit_lt _ _ _⟩
    · simp only [if_neg hepb, if_neg hspb]
      split <;> exact ⟨hcodes _, by decide⟩

/-- The widths an endpoint is expanded from, with its p-bit if it has one, are 4 to 8 (48_packer_bc7.md R360). -/
theorem bc7Mode_widths : ∀ m < 8,
    (if (bc7Mode m).epb = 1 || (bc7Mode m).spb = 1 then 4 ≤ (bc7Mode m).cb + 1 ∧ (bc7Mode m).cb + 1 ≤ 8
      else 4 ≤ (bc7Mode m).cb ∧ (bc7Mode m).cb ≤ 8) ∧
    (bc7SeparateAlpha m = true → 4 ≤ (bc7Mode m).ab ∧ (bc7Mode m).ab ≤ 8) := by
  decide

theorem recon7_range {m : Nat} (hm : m < 8) {codes : List Int} {P : Nat}
    (hcodes : ∀ x ∈ codes, x.toNat < 2 ^ (bc7Mode m).cb) (hP : P < 2) :
    ∀ y ∈ recon7 (bc7Mode m) codes P, y ∈ Set.Icc 0 255 := by
  intro y hy
  obtain ⟨x, hx, rfl⟩ := List.mem_map.1 hy
  have hcode := hcodes x hx
  have hpow : 2 ^ ((bc7Mode m).cb + 1) = 2 * 2 ^ (bc7Mode m).cb := pow_succ' 2 _
  obtain ⟨hwidth, -⟩ := bc7Mode_widths m hm
  rw [Set.mem_Icc]
  split at hwidth
  next hpb =>
    have := expand_lt (x := 2 * x.toNat + P) hwidth.1 hwidth.2 (by omega)
    rw [if_pos hpb, recon_eq _ _ hP]
    omega
  next hpb =>
    have := expand_lt hwidth.1 hwidth.2 hcode
    rw [if_neg hpb]
    omega

section

variable {f : Fitter} {t : Tile} {p : Position} (hf : TotalFitter f) (hm : p.mode < 8)

theorem evalAlpha7_range (e : Nat) : (evalAlpha7 f t p).1.getD e 0 < 2 ^ (bc7Mode p.mode).ab := by
  unfold evalAlpha7
  dsimp only
  match e with
  | 0 => exact q7_lt _ _
  | 1 => exact q7_lt _ _
  | e + 2 => exact Nat.two_pow_pos _

include hf hm

/-- The decoder reconstructs bytes from a candidate's endpoints. -/
theorem endpoint7_evalBlock7_range {k e ch : Nat} (hk : k < (bc7Mode p.mode).ns) (he : e < 2) (hch : ch < 4) :
    endpoint7 p.mode (evalBlock7 f t p) k e ch ∈ Set.Icc 0 255 := by
  by_cases hcolour : ch < bc7Channels p.mode
  · obtain ⟨hcodes, hP⟩ := quantizePair7_range (bc7Mode p.mode)
      (fitPixels f (bc7Channels p.mode) (rotatedVector t p.rot) t.imp
        (regionPixels t (bc7Mode p.mode).ns p.shape k)).1
      (fitPixels f (bc7Channels p.mode) (rotatedVector t p.rot) t.imp
        (regionPixels t (bc7Mode p.mode).ns p.shape k)).2 e
    rw [endpoint7_evalBlock7 hf hk he hcolour, List.getD_eq_getElem _ _
      (by rw [length_recon7, evalRegion7_length f t p hf]; exact hcolour)]
    exact recon7_range hm hcodes hP _ (List.getElem_mem _)
  · obtain rfl : ch = 3 := by unfold bc7Channels at hcolour; split at hcolour <;> omega
    rw [Set.mem_Icc]
    by_cases hsep : bc7SeparateAlpha p.mode = true
    · obtain ⟨hlo, hhi⟩ := (bc7Mode_widths _ hm).2 hsep
      have := expand_lt hlo hhi (evalAlpha7_range (f := f) (t := t) (p := p) e)
      rw [endpoint7_evalBlock7_alpha hsep hm]
      omega
    · rw [endpoint7, if_neg hcolour, if_neg hsep]
      omega

theorem channel7_evalBlock7_range (hp : p ∈ positions7 p.mode) {i ch : Nat} (hi : i < 16) (hch : ch < 4) :
    channel7 p.mode (evalBlock7 f t p) i ch ∈ Set.Icc 0 255 := by
  obtain ⟨hpos, hns, -⟩ := bc7Mode_facts _ hm
  have hregion := region_lt _ hns hpos _ (shape_lt_of_mem_positions7 hm hp) i hi
  rw [channel7, evalBlock7_shape]
  exact lerp_mem_Icc (weight_le_max _ _) (endpoint7_evalBlock7_range hf hm hregion (by decide) hch)
    (endpoint7_evalBlock7_range hf hm hregion (by decide) hch)

end

/-! ### The error in terms of the decoded block -/

/-- The squared distance of a decoded channel from the tile's, times the channel's weight (46_index_assign.md R306). -/
def weightedSquare (w q : Nat) (v : Int) : Nat := w * ((q : Int) - v).natAbs ^ 2

section

variable {r : RwRegs} (hfmt : cfgFormat r.cfg = .bc7) (boost : Nat)
include hfmt

theorem length_tileVector_bc7 {i : Nat} (hi : i < 16) : (tileVector r i).length = 4 := by
  rw [tileVector_bc7 hfmt, sourceVector_eq r ⟨i, hi⟩]
  rfl

theorem length_channelWeights_bc7 {i : Nat} (hi : i < 16) : (channelWeights r i).length = 4 := by
  rw [channelWeights_bc7 hfmt ⟨i, hi⟩]
  split <;> rfl

theorem length_rotatedVector {i : Nat} (hi : i < 16) (rot : Nat) :
    (rotatedVector (prepareTile boost r) rot i).length = 4 := by
  rw [rotatedVector, length_rotate, prepareTile_vec boost r hi, length_tileVector_bc7 hfmt hi]

theorem length_rotatedWeights {i : Nat} (hi : i < 16) (rot : Nat) :
    (rotatedWeights (prepareTile boost r) rot i).length = 4 := by
  rw [rotatedWeights, List.length_map, length_rotate, prepareTile_cw boost r hi, length_channelWeights_bc7 hfmt hi]

variable {f : Fitter} {p : Position} (hf : TotalFitter f) (hm : p.mode < 8) (hp : p ∈ positions7 p.mode)
include hf hm hp

/-- Undoing the rotation, the error of a pixel is the distance of the decoded pixel from the tile's vector. -/
theorem sum_channelError7 {i : Nat} (hi : i < 16) :
    ((List.range 4).map (channelError7 f (prepareTile boost r) p i)).sum =
      effectiveWeight boost r i * ((List.range 4).map fun ch => weightedSquare ((channelWeights r i).getD ch 0)
        ((pixel7 p.mode (evalBlock7 f (prepareTile boost r) p) i).getD ch 0) ((tileVector r i).getD ch 0)).sum := by
  have hw := length_channelWeights_bc7 hfmt hi
  rw [pixel7_eq, evalBlock7_rot, ← sum_rotate weightedSquare hw (by simp)
    (length_tileVector_bc7 hfmt hi) (rot_lt_of_mem_positions7 hp), ← List.sum_map_mul_left]
  refine congrArg List.sum (List.map_congr_left fun ch hch => ?_)
  have hch : ch < 4 := List.mem_range.1 hch
  have hnonneg := (channel7_evalBlock7_range (t := prepareTile boost r) hf hm hp hi hch).1
  have hlt : ch < (rotate (channelWeights r i) p.rot).length := by rw [length_rotate, hw]; exact hch
  have hweight : (rotatedWeights (prepareTile boost r) p.rot i).getD ch 0 =
      effectiveWeight boost r i * (rotate (channelWeights r i) p.rot).getD ch 0 := by
    rw [rotatedWeights, prepareTile_cw boost r hi, prepareTile_imp boost r hi]
    simp [hlt]
  rw [channelError7, weightedSquare, hweight, rotatedVector, prepareTile_vec boost r hi, getD_map_range _ hch,
    Int.toNat_of_nonneg hnonneg, Nat.mul_assoc]

/-- The error of a BC7 candidate is the weighted squared error of its decoded block (46_index_assign.md R306). -/
theorem evalBc7_error_eq_decoded : (evalBc7 f (prepareTile boost r) p).1 =
    ((pixels.filter fun i => slotValid r.tiledim i).map fun i => effectiveWeight boost r i *
      ((List.range 4).map fun ch => weightedSquare ((channelWeights r i).getD ch 0)
        ((pixel7 p.mode (evalBlock7 f (prepareTile boost r) p) i).getD ch 0)
        ((tileVector r i).getD ch 0)).sum).sum := by
  rw [evalBc7_error_eq_sum hf hm hp
    (fun i hi => length_rotatedWeights hfmt boost (lt_of_mem_validPixels hi) p.rot)
    (fun i hi => length_rotatedVector hfmt boost (lt_of_mem_validPixels hi) p.rot), ← validPixels_prepareTile boost r]
  exact congrArg List.sum (List.map_congr_left fun i hi =>
    sum_channelError7 hfmt boost hf hm hp (lt_of_mem_validPixels hi))

end

theorem evalAt_bc7 {f : Fitter} {r : RwRegs} (hfmt : cfgFormat r.cfg = .bc7) (t : Tile) (p : Position) :
    evalAt f r t p = some (evalBc7 f t p) := by
  rw [evalAt, hfmt]

/-- Settles O30: the comparator's errors are those of the decoded channels, pixel by pixel, and the rotation only
permutes the channels; the tile and its weights are read off the registers. -/
theorem candidateErrorIsDecodedError : Obligations.CandidateErrorIsDecodedError := by
  refine ⟨fun f boost r m p e c px hf hfmt hm hp heval hpx => ?_, fun r i a hfmt ha => ?_,
    fun boost r i twin _ htwin => effectiveWeight_cases boost r i (htwin.trans (hasTwin_iff r i).symm), rfl⟩
  · obtain rfl := (mem_positions7.1 hp).1
    rw [evalAt_bc7 hfmt, Option.some_inj] at heval
    have herr := evalBc7_error_eq_decoded hfmt boost hf hm hp
    simp only [evalBlock7, heval] at herr
    rw [herr]
    refine congrArg List.sum (List.map_congr_left fun i hi => ?_)
    have hpixel : px.getD i [] = pixel7 p.mode (candidateBlock7 c) i := by
      rw [hpx]
      exact getD_map_pixels _ (List.mem_range.1 (List.mem_filter.1 hi).1) _
    rw [hpixel]
    rfl
  · obtain rfl : a = sourceAlpha r i := ha
    exact ⟨(tileVector_bc7 hfmt i).trans (sourceVector_eq r i), channelWeights_bc7 hfmt i⟩

end Sys2Proof.Machine

/-! SUPPORT. The codes a BC6H candidate quantizes to, and their way through the stored fields of its block back to the
reference decoder's endpoints (44_quantizer.md R240 to R248, 49_packer_bc6h.md R394, R396). -/

namespace Sys2Proof.Machine

/-! ### The mode table and the positions -/

/-- What the proofs need of a row of the BC6H mode table (49_packer_bc6h.md R390). -/
theorem bc6hMode_facts : ∀ m < 15, 1 ≤ m → 0 < (bc6hMode m).ns ∧ (bc6hMode m).ns < 4 ∧ bc6hShapes m ≤ 64 ∧
    0 < (bc6hMode m).p ∧ (bc6hMode m).p ≤ 16 ∧ (bc6hMode m).ib ∈ [2, 3, 4] ∧
    ((bc6hMode m).transformed = true → ∀ ch < 3, 0 < bc6hDeltaBits m ch) := by
  decide

theorem mem_positions6 {m : Nat} {p : Position} :
    p ∈ positions6 m ↔ p.mode = m ∧ p.shape < bc6hShapes m ∧ p.rot = 0 ∧ p.isb = 0 := by
  obtain ⟨pm, ps, pr, pi⟩ := p
  simp only [positions6, List.mem_map, List.mem_range, Position.mk.injEq]
  constructor
  · rintro ⟨s, hs, rfl, rfl, rfl, rfl⟩
    exact ⟨rfl, hs, rfl, rfl⟩
  · rintro ⟨rfl, hs, rfl, rfl⟩
    exact ⟨ps, hs, rfl, rfl, rfl, rfl⟩

/-! ### The quantizer's codes -/

/-- The codes the BC6H quantizer answers: those of a field of `p` bits, the least negative one left out
(44_quantizer.md R240, R241). -/
def CodeFits6 (signed : Bool) (q : Int) (p : Nat) : Prop :=
  if signed then -2 ^ (p - 1) < q ∧ q < 2 ^ (p - 1) else 0 ≤ q ∧ q < 2 ^ p

theorem roundHalfUp_clampRat_range (v : Rat) {lo hi : Int} (hle : lo ≤ hi) :
    lo ≤ roundHalfUp (clampRat v lo hi) ∧ roundHalfUp (clampRat v lo hi) ≤ hi := by
  have hclamp : (lo : Rat) ≤ clampRat v lo hi ∧ clampRat v lo hi ≤ hi := by
    have hle' : (lo : Rat) ≤ hi := by exact_mod_cast hle
    unfold clampRat
    split_ifs with h1 h2
    · exact ⟨le_rfl, hle'⟩
    · exact ⟨hle', le_rfl⟩
    · exact ⟨not_lt.1 h1, not_lt.1 h2⟩
  have hfloor : roundHalfUp (clampRat v lo hi) = ⌊clampRat v lo hi + 1 / 2⌋ := rfl
  rw [hfloor]
  refine ⟨Int.le_floor.2 (by linarith [hclamp.1]), Int.lt_add_one_iff.1 (Int.floor_lt.2 ?_)⟩
  push_cast
  linarith [hclamp.2]

/-- The bias is below the width of the bins it is added to. -/
theorem q6Bias_lt (p : Nat) : 0 ≤ q6Bias p ∧ q6Bias p < 2 ^ (p - 1) := by
  have hlo : (1 : Int) ≤ 2 ^ (p - 1) := one_le_pow₀ (by decide)
  unfold q6Bias
  split <;> omega

/-- The binning of a magnitude in the working range gives a code of `k` bits. -/
theorem q6_bin_lt {m w h : Int} (hm : 0 ≤ m ∧ m ≤ 31743) (hh : 0 ≤ h ∧ h < w) :
    0 ≤ (m * w + h) / (f16Max + 1) ∧ (m * w + h) / (f16Max + 1) < w := by
  have hmax : f16Max + 1 = 31744 := rfl
  have hlo : 0 ≤ m * w := mul_nonneg hm.1 (by omega)
  have hhi : m * w ≤ 31743 * w := mul_le_mul_of_nonneg_right hm.2 (by omega)
  rw [hmax]
  omega

theorem q6_fits (signed : Bool) (v : Rat) {p : Nat} (hp : 0 < p) : CodeFits6 signed (q6 signed v p) p := by
  obtain ⟨hbias, hbias'⟩ := q6Bias_lt p
  cases signed with
  | false =>
    have hpow : (2 : Int) ^ (p - 1) ≤ 2 ^ p := pow_le_pow_right₀ (by decide) (by omega)
    have hround := roundHalfUp_clampRat_range v (by decide : (0 : Int) ≤ f16Max)
    rw [Int.cast_zero] at hround
    exact q6_bin_lt hround ⟨hbias, by omega⟩
  | true =>
    have hround := roundHalfUp_clampRat_range v (by decide : (-f16Max : Int) ≤ f16Max)
    rw [Int.cast_neg] at hround
    have hmax : f16Max = 31743 := rfl
    have hbin := q6_bin_lt (m := ((roundHalfUp (clampRat v (-f16Max) f16Max)).natAbs : Int)) (by omega) ⟨hbias, hbias'⟩
    rw [CodeFits6, if_pos rfl, q6, if_pos rfl, q6S]
    split_ifs <;> omega

/-! ### Stored fields read back -/

theorem sext_eq_bmod (v : Int) {n : Nat} (hn : 0 < n) : sext v n = v.bmod (2 ^ n) := by
  obtain ⟨k, rfl⟩ := Nat.exists_eq_succ_of_ne_zero hn.ne'
  have hhalf : ((2 : Int) ^ (k + 1) + 1) / 2 = 2 ^ k := by rw [pow_succ]; omega
  simp only [sext, Int.bmod]
  push_cast
  rw [hhalf]

/-- The low bits of a value that fits are read back as it (44_quantizer.md R247, R248). -/
theorem sext_emod {v : Int} {n : Nat} (hn : 0 < n) (hlo : -2 ^ (n - 1) ≤ v) (hhi : v < 2 ^ (n - 1)) :
    sext (v % 2 ^ n) n = v := by
  obtain ⟨k, rfl⟩ := Nat.exists_eq_succ_of_ne_zero hn.ne'
  have hmod : (v % 2 ^ (k + 1)).bmod (2 ^ (k + 1)) = v.bmod (2 ^ (k + 1)) := by
    exact_mod_cast Int.emod_bmod v (2 ^ (k + 1))
  have hpow : (2 : Int) ^ (k + 1) = 2 * 2 ^ k := pow_succ' 2 k
  rw [Nat.succ_sub_one] at hlo hhi
  rw [sext_eq_bmod _ hn]
  refine hmod.trans (Int.bmod_eq_of_le ?_ ?_) <;> push_cast <;> omega

/-- A code that fits is read back from its low bits under its format (49_packer_bc6h.md R396). -/
theorem readCode_emod {signed : Bool} {q : Int} {p : Nat} (hp : 0 < p) (hq : CodeFits6 signed q p) :
    (if signed then sext (q % 2 ^ p) p else q % 2 ^ p) = q := by
  cases signed with
  | false => exact Int.emod_eq_of_lt hq.1 hq.2
  | true => exact sext_emod hp hq.1.le hq.2

/-- A delta that fits its field is read back from it (44_quantizer.md R248). -/
theorem sext_deltaStored {d : Int} {db : Nat} (hdb : 0 < db) (hfits : deltaFits d db = true) :
    sext (deltaStored d db) db = d := by
  obtain ⟨hlo, hhi⟩ : -2 ^ (db - 1) ≤ d ∧ d < 2 ^ (db - 1) := by simpa [deltaFits] using hfits
  rw [deltaStored_cast, sext_emod hdb hlo hhi]

/-! ### The endpoints of a candidate -/

section

variable {c : Candidate} {w : List Int} {rest : List (List Int)} (hends : endsInOrder c.ends = w :: rest)
include hends

theorem candidateBlock6_ends : (candidateBlock6 c).ends = (List.range 3).map (storedEnd c.mode w true w) ++
    rest.flatMap fun e => (List.range 3).map (storedEnd c.mode w false e) := by
  have hall : (c.ends.flatMap fun e => [e.a, e.b]) = w :: rest := hends
  simp only [candidateBlock6, hall]
  rfl

/-- The first endpoint's fields hold its codes (49_packer_bc6h.md R394). -/
theorem getD_ends_first {ch : Nat} (hch : ch < 3) :
    (candidateBlock6 c).ends.getD ch 0 = deltaStored (w.getD ch 0) (bc6hMode c.mode).p := by
  rw [candidateBlock6_ends hends, List.getD_append _ _ _ _ (by simpa using hch), getD_map_range _ hch]
  rfl

theorem getD_ends_rest {e ch : Nat} (he : e < rest.length) (hch : ch < 3) :
    (candidateBlock6 c).ends.getD (3 * (e + 1) + ch) 0 = storedEnd c.mode w false rest[e] ch := by
  have hplace : 3 * (e + 1) + ch - ((List.range 3).map (storedEnd c.mode w true w)).length = e * 3 + ch := by
    simp
    omega
  rw [candidateBlock6_ends hends, List.getD_append_right _ _ _ _ (by simp; omega), hplace,
    getD_flatMap_of_length (n := 3) 0 (fun _ _ => by simp) he hch, getD_map_range _ hch]

variable {signed : Bool} (hm : c.mode < 15) (hm1 : 1 ≤ c.mode)
  (hfits : ∀ e ∈ endsInOrder c.ends, ∀ ch < 3, CodeFits6 signed (e.getD ch 0) (bc6hMode c.mode).p)
include hm hm1 hfits

theorem endpointW_candidateBlock6 {ch : Nat} (hch : ch < 3) :
    endpointW signed c.mode (candidateBlock6 c) ch = w.getD ch 0 := by
  obtain ⟨-, -, -, hp, -⟩ := bc6hMode_facts _ hm hm1
  rw [endpointW, getD_ends_first hends hch, deltaStored_cast]
  exact readCode_emod hp (hfits w (by simp [hends]) ch hch)

/-- The decoder reads the candidate's codes, whether a field holds the code or its delta from the first endpoint
(49_packer_bc6h.md R396, 44_quantizer.md R248). -/
theorem endpoint6_candidateBlock6 (hdeltas : (bc6hMode c.mode).transformed = true → deltasFit c.mode c.ends = true)
    {e ch : Nat} (he : e < (endsInOrder c.ends).length) (hch : ch < 3) :
    endpoint6 signed c.mode (candidateBlock6 c) e ch = ((endsInOrder c.ends).getD e []).getD ch 0 := by
  obtain ⟨-, -, -, hp, -, -, hdb⟩ := bc6hMode_facts _ hm hm1
  have hW := endpointW_candidateBlock6 hends hm hm1 hfits hch
  cases e with
  | zero => rw [endpoint6, if_pos rfl, hW, hends]; rfl
  | succ e =>
    have he' : e < rest.length := by simpa [hends] using he
    have hcode : ((endsInOrder c.ends).getD (e + 1) []).getD ch 0 = rest[e].getD ch 0 := by simp [hends, he']
    have hfit : CodeFits6 signed (rest[e].getD ch 0) (bc6hMode c.mode).p := hfits rest[e] (by simp [hends]) ch hch
    have hread : (if (bc6hMode c.mode).transformed then
        (endpointW signed c.mode (candidateBlock6 c) ch +
          sext ((candidateBlock6 c).ends.getD (3 * (e + 1) + ch) 0) (bc6hDeltaBits c.mode ch)) % 2 ^ (bc6hMode c.mode).p
        else ((candidateBlock6 c).ends.getD (3 * (e + 1) + ch) 0 : Int)) =
        rest[e].getD ch 0 % 2 ^ (bc6hMode c.mode).p := by
      rw [getD_ends_rest hends he' hch, hW, storedEnd]
      by_cases htr : (bc6hMode c.mode).transformed = true
      · have hdelta : deltaFits (rest[e].getD ch 0 - w.getD ch 0) (bc6hDeltaBits c.mode ch) = true := by
          have hall := hdeltas htr
          simp only [deltasFit, hends, List.tail_cons, List.headD_cons, List.all_eq_true] at hall
          exact hall rest[e] (List.getElem_mem he') ch (List.mem_range.2 hch)
        rw [if_pos htr, htr, if_neg (by decide), sext_deltaStored (hdb htr ch hch) hdelta, add_sub_cancel]
      · rw [if_neg htr, if_pos (by simpa using htr), deltaStored_cast]
    rw [hcode, endpoint6, if_neg (Nat.succ_ne_zero e)]
    simp only [hread]
    exact readCode_emod hp hfit

end

/-! ### The range of the interpolated values -/

/-- The unquantized values of the codes the quantizer answers (44_quantizer.md R242, R243). -/
def unquantRange (signed : Bool) : Set Int := if signed then Set.Icc (-32767) 32767 else Set.Icc 0 65535

theorem uq6S_neg (q : Int) (p : Nat) : uq6S (-q) p = -uq6S q p := by
  unfold uq6S
  simp only [Int.natAbs_neg]
  split_ifs <;> omega

theorem uq6_mem_unquantRange {signed : Bool} {q : Int} {p : Nat} (hp : p ≤ 16) (hq : CodeFits6 signed q p) :
    uq6 signed q p ∈ unquantRange signed := by
  cases signed with
  | false =>
    have := uq6U_range hp hq
    exact ⟨this.1, Int.lt_add_one_iff.1 this.2⟩
  | true =>
    obtain ⟨hlo, hhi⟩ := hq
    have hpos := (uq6S_range hp ⟨hlo.le, hhi⟩).2
    have hneg := (uq6S_range (q := -q) hp ⟨by omega, by omega⟩).2
    rw [uq6S_neg] at hneg
    exact ⟨by show -32767 ≤ uq6S q p; omega, by show uq6S q p ≤ 32767; omega⟩

/-- What the decoder makes a half pattern of is a working value of the format, so it stays as it is
(49_packer_bc6h.md R397, 40_half_float.md R166). -/
theorem h2wValue_w2hValue_fin6 {signed : Bool} {u v : Int} (hu : u ∈ unquantRange signed)
    (hv : v ∈ unquantRange signed) (b j : Nat) :
    h2wValue signed (w2hValue signed (fin6 signed (lerp u v (weight b j)))) =
      fin6 signed (lerp u v (weight b j)) := by
  have hw := weight_le_max b j
  rw [h2wValue_w2hValue]
  cases signed with
  | false =>
    have hlerp : lerp u v (weight b j) ∈ Set.Icc 0 65535 := lerp_mem_Icc hw hu hv
    rw [Set.mem_Icc] at hlerp
    rw [fin6, if_neg Bool.false_ne_true, if_neg Bool.false_ne_true, fin6U]
    omega
  | true =>
    have hlerp : lerp u v (weight b j) ∈ Set.Icc (-32767) 32767 := lerp_mem_Icc hw hu hv
    rw [Set.mem_Icc] at hlerp
    rw [fin6, if_pos rfl, if_pos rfl, fin6S]
    split <;> omega

end Sys2Proof.Machine

/-! SUPPORT. The error of a BC6H candidate (47_mode_selector.md R327) as the distance of its decoded block from the tile
(46_index_assign.md R306). -/

namespace Sys2Proof.Machine

/-! ### The choices of an evaluation -/

/-- The quantized pairs of the candidate at `p`. -/
def evalEnds6 (f : Fitter) (t : Tile) (signed : Bool) (p : Position) : List Ends :=
  (List.range (bc6hMode p.mode).ns).map (quantizeRegion6 f t signed p)

/-- The index and error of pixel `i` as one of region `k` (47_mode_selector.md R327). -/
def choice6 (f : Fitter) (t : Tile) (signed : Bool) (p : Position) (k i : Nat) : Nat × Nat :=
  nearestEntry ((t.cw.getD i []).map fun c => t.imp.getD i 0 * c) (t.vec.getD i [])
    (palette6 signed (bc6hMode p.mode).p (bc6hMode p.mode).ib ((evalEnds6 f t signed p).getD k default).a
      ((evalEnds6 f t signed p).getD k default).b)
    (indexLimit (bc6hMode p.mode).ib ((anchors (bc6hMode p.mode).ns p.shape).contains i))

/-- The assignment of all regions. -/
def assignment6 (f : Fitter) (t : Tile) (signed : Bool) (p : Position) : List (Nat × Nat × Nat) :=
  (List.range (bc6hMode p.mode).ns).flatMap fun k =>
    (regionPixels t (bc6hMode p.mode).ns p.shape k).map fun i => (i, choice6 f t signed p k i)

/-- A valid candidate: its deltas fit, its error is the assignment's, and its fields (47_mode_selector.md R327). -/
theorem evalBc6h_eq_some {f : Fitter} {t : Tile} {signed : Bool} {p : Position} {e : Nat} {c : Candidate}
    (heval : evalBc6h f t signed p = some (e, c)) :
    ((bc6hMode p.mode).transformed = true → deltasFit p.mode (evalEnds6 f t signed p) = true) ∧
    e = assignmentError (assignment6 f t signed p) ∧ c.mode = p.mode ∧ c.shape = p.shape ∧
    c.ends = evalEnds6 f t signed p ∧ c.idx1 = indexArray (assignment6 f t signed p) := by
  unfold evalBc6h at heval
  dsimp only at heval
  split at heval
  next => exact absurd heval (by simp)
  next hfit =>
    obtain ⟨rfl, rfl⟩ := Prod.mk.inj (Option.some.inj heval)
    exact ⟨fun htr => by simpa [htr, evalEnds6] using hfit, rfl, rfl, rfl, rfl, rfl⟩

/-! ### The endpoints -/

theorem length_endsInOrder (es : List Ends) : (endsInOrder es).length = es.length * 2 := by
  simp [endsInOrder]

/-- The ends of the `k`-th pair, A before B (49_packer_bc6h.md R391). -/
theorem getD_endsInOrder {es : List Ends} {k e : Nat} (hk : k < es.length) (he : e < 2) :
    (endsInOrder es).getD (2 * k + e) [] = (es[k].codes e) := by
  rw [endsInOrder, Nat.mul_comm, getD_flatMap_of_length (n := 2) [] (fun _ _ => rfl) hk he]
  interval_cases e <;> rfl

section

variable {f : Fitter} {t : Tile} {signed : Bool} {p : Position} (hf : TotalFitter f)

theorem length_evalEnds6 : (evalEnds6 f t signed p).length = (bc6hMode p.mode).ns := by
  simp [evalEnds6]

include hf

theorem length_quantizeRegion6 (k : Nat) : (quantizeRegion6 f t signed p k).a.length = 3 ∧
    (quantizeRegion6 f t signed p k).b.length = 3 := by
  simp [quantizeRegion6, fitPixels, hf _ _ _]

/-- Every code of a candidate fits the mode's precision. -/
theorem evalEnds6_fits (hp : 0 < (bc6hMode p.mode).p) :
    ∀ e ∈ endsInOrder (evalEnds6 f t signed p), ∀ ch < 3, CodeFits6 signed (e.getD ch 0) (bc6hMode p.mode).p := by
  intro e he ch hch
  obtain ⟨E, hE, hmem⟩ := List.mem_flatMap.1 he
  obtain ⟨k, -, rfl⟩ := List.mem_map.1 hE
  obtain ⟨hA, hB⟩ := length_quantizeRegion6 (t := t) (signed := signed) (p := p) hf k
  have hquant (l : List Rat) (hl : (l.map fun v => q6 signed v (bc6hMode p.mode).p).length = 3) :
      CodeFits6 signed ((l.map fun v => q6 signed v (bc6hMode p.mode).p).getD ch 0) (bc6hMode p.mode).p := by
    rw [List.getD_eq_getElem _ _ (by omega), List.getElem_map]
    exact q6_fits signed _ hp
  rcases List.mem_pair.1 hmem with rfl | rfl
  · exact hquant _ hA
  · exact hquant _ hB

end

/-! ### The decoder on the candidate's block -/

section

variable {f : Fitter} {t : Tile} {signed : Bool} {p : Position} {e : Nat} {c : Candidate} (hf : TotalFitter f)
  (hm : p.mode < 15) (hm1 : 1 ≤ p.mode) (hp : p ∈ positions6 p.mode)
  (heval : evalBc6h f t signed p = some (e, c))

include hm hm1 hp in
theorem shape_lt_of_mem_positions6 : p.shape < 64 := by
  obtain ⟨-, hshape, -⟩ := mem_positions6.1 hp
  obtain ⟨-, -, hshapes, -⟩ := bc6hMode_facts _ hm hm1
  exact hshape.trans_le hshapes

include hm hm1 hp in
theorem assignment6_perm : (assignment6 f t signed p).Perm ((validPixels t).map fun i =>
    (i, choice6 f t signed p (region (bc6hMode p.mode).ns p.shape i) i)) := by
  obtain ⟨hpos, hns, -⟩ := bc6hMode_facts _ hm hm1
  exact assignRegions_perm t hns hpos (shape_lt_of_mem_positions6 hm hm1 hp) (choice6 f t signed p)

include hf hm hm1 heval in
/-- The decoder's endpoints are the candidate's codes (49_packer_bc6h.md R396). -/
theorem endpoint6_of_evalBc6h {k n ch : Nat} (hk : k < (bc6hMode p.mode).ns) (hn : n < 2) (hch : ch < 3) :
    endpoint6 signed p.mode (candidateBlock6 c) (2 * k + n) ch =
      ((quantizeRegion6 f t signed p k).codes n).getD ch 0 := by
  obtain ⟨hdeltas, -, hmode, -, hends, -⟩ := evalBc6h_eq_some heval
  obtain ⟨hpos, -, -, hprec, -⟩ := bc6hMode_facts _ hm hm1
  have hlen : (evalEnds6 f t signed p).length = (bc6hMode p.mode).ns := length_evalEnds6
  have htotal := length_endsInOrder (evalEnds6 f t signed p)
  obtain ⟨w, rest, hw⟩ := List.exists_cons_of_ne_nil (l := endsInOrder c.ends)
    (List.ne_nil_of_length_pos (by rw [hends]; omega))
  have hdecoded := endpoint6_candidateBlock6 (signed := signed) (e := 2 * k + n) (ch := ch) hw
  rw [hmode, hends] at hdecoded
  rw [hdecoded hm hm1 (evalEnds6_fits hf hprec) hdeltas (by omega) hch, getD_endsInOrder (by omega) hn]
  simp [evalEnds6]

include hm hm1 hp heval in
theorem getD_idx_of_evalBc6h {i : Nat} (hi : i ∈ validPixels t) : (candidateBlock6 c).idx.getD i 0 =
    (choice6 f t signed p (region (bc6hMode p.mode).ns p.shape i) i).1 := by
  obtain ⟨-, -, -, -, -, hidx⟩ := evalBc6h_eq_some heval
  rw [candidateBlock6, hidx]
  exact indexArray_of_perm (assignment6_perm hm hm1 hp) (lt_of_mem_validPixels hi) hi

include hf hm hm1 hp heval in
/-- The comparator's error of a pixel is that of its decoded channels, in working values. -/
theorem choice6_error {i : Nat} (hi : i ∈ validPixels t) (hw : (t.cw.getD i []).length = 3)
    (hv : (t.vec.getD i []).length = 3) :
    (choice6 f t signed p (region (bc6hMode p.mode).ns p.shape i) i).2 = ((List.range 3).map fun ch =>
      ((t.cw.getD i []).map fun w => t.imp.getD i 0 * w).getD ch 0 *
        (h2wValue signed ((pixel6 signed p.mode (candidateBlock6 c) i).getD ch 0) -
          (t.vec.getD i []).getD ch 0).natAbs ^ 2).sum := by
  obtain ⟨hpos, hns, -, hprec, hprec16, hib, -⟩ := bc6hMode_facts _ hm hm1
  obtain ⟨-, -, -, (hshape : (candidateBlock6 c).shape = p.shape), -⟩ := evalBc6h_eq_some heval
  have hregion := region_lt _ hns hpos _ (shape_lt_of_mem_positions6 hm hm1 hp) i (lt_of_mem_validPixels hi)
  obtain ⟨k, hk⟩ : ∃ k, k = region (bc6hMode p.mode).ns p.shape i := ⟨_, rfl⟩
  have hend : (evalEnds6 f t signed p).getD k default = quantizeRegion6 f t signed p k :=
    getD_map_range _ (hk ▸ hregion) _
  have hlen := length_quantizeRegion6 (t := t) (signed := signed) (p := p) hf k
  rw [← hk] at hregion ⊢
  rw [nearestEntry_interpolated (n := 3) (fun j x y => fin6 signed (lerp (uq6 signed x (bc6hMode p.mode).p)
    (uq6 signed y (bc6hMode p.mode).p) (weight (bc6hMode p.mode).ib j))) (bits_pos hib) (by simpa using hw) hv
    (hend ▸ hlen.1) (hend ▸ hlen.2) _ (Prod.mk.eta (p := choice6 f t signed p k i)).symm, hend]
  refine congrArg List.sum (List.map_congr_left fun ch hch => ?_)
  have hch : ch < 3 := List.mem_range.1 hch
  have hA := endpoint6_of_evalBc6h hf hm hm1 heval hregion (by decide : 0 < 2) hch
  have hB := endpoint6_of_evalBc6h hf hm hm1 heval hregion (by decide : 1 < 2) hch
  have hrange (n : Nat) (hn : n < 2) : uq6 signed (((quantizeRegion6 f t signed p k).codes n).getD ch 0)
      (bc6hMode p.mode).p ∈ unquantRange signed := by
    refine uq6_mem_unquantRange hprec16 (evalEnds6_fits (t := t) (signed := signed) hf hprec _ ?_ ch hch)
    refine List.mem_flatMap.2 ⟨_, List.mem_map.2 ⟨k, List.mem_range.2 hregion, rfl⟩, ?_⟩
    interval_cases n <;> simp [Ends.codes]
  rw [pixel6, getD_map_range _ hch, hshape, ← hk, getD_idx_of_evalBc6h hm hm1 hp heval hi, ← hk]
  rw [Nat.add_zero] at hA
  simp only [hA, hB]
  rw [h2wValue_w2hValue_fin6 (hrange 0 (by decide)) (hrange 1 (by decide))]
  rfl

end

/-! ### The error in terms of the decoded block -/

section

variable {r : RwRegs} (hfmt : cfgFormat r.cfg = .bc6h) {f : Fitter} {boost : Nat} {p : Position} {e : Nat}
  {c : Candidate} (hf : TotalFitter f) (hm : p.mode < 15) (hm1 : 1 ≤ p.mode) (hp : p ∈ positions6 p.mode)

include hfmt in
theorem evalAt_bc6h (t : Tile) : evalAt f r t p = evalBc6h f t (cfgSigned r.cfg) p := by
  rw [evalAt, hfmt]

include hfmt hf hm hm1 hp

/-- The error of a BC6H candidate is the weighted squared error of its decoded block (46_index_assign.md R306). -/
theorem evalBc6h_error_eq_decoded
    (heval : evalBc6h f (prepareTile boost r) (cfgSigned r.cfg) p = some (e, c)) :
    e = ((pixels.filter fun i => slotValid r.tiledim i).map fun i => effectiveWeight boost r i *
      ((List.range 3).map fun ch =>
        (h2wValue (cfgSigned r.cfg) ((pixel6 (cfgSigned r.cfg) p.mode (candidateBlock6 c) i).getD ch 0) -
          (workingVector r i).getD ch 0).natAbs ^ 2).sum).sum := by
  obtain ⟨-, herr, -⟩ := evalBc6h_eq_some heval
  rw [herr, assignmentError_of_perm (assignment6_perm hm hm1 hp), ← validPixels_prepareTile boost r]
  refine congrArg List.sum (List.map_congr_left fun i hi => ?_)
  have hi16 := lt_of_mem_validPixels hi
  have hcw : (prepareTile boost r).cw.getD i [] = [1, 1, 1] :=
    (prepareTile_cw boost r hi16).trans (channelWeights_bc6h hfmt i)
  have hvec : (prepareTile boost r).vec.getD i [] = workingVector r i :=
    (prepareTile_vec boost r hi16).trans (tileVector_bc6h hfmt i)
  have hlen : (workingVector r i).length = 3 := by rw [workingVector_eq r ⟨i, hi16⟩]; rfl
  rw [choice6_error hf hm hm1 hp heval hi (by rw [hcw]; rfl) (by rw [hvec, hlen]), hcw, hvec,
    prepareTile_imp boost r hi16, ← List.sum_map_mul_left]
  refine congrArg List.sum (List.map_congr_left fun ch hch => ?_)
  have hch : ch < 3 := List.mem_range.1 hch
  congr 1
  interval_cases ch <;> simp

end

/-- Settles O31: the comparator's errors are those of the decoded working values, pixel by pixel; the tile and its
weights are read off the registers. -/
theorem candidateErrorIsDecodedErrorBc6h : Obligations.CandidateErrorIsDecodedErrorBc6h := by
  refine ⟨fun f boost r m p e c px hf hfmt hm1 hm hp heval hpx => ?_,
    fun r i hfmt => ⟨tileVector_bc6h hfmt i, workingVector_eq r i, channelWeights_bc6h hfmt i⟩,
    fun boost r i twin _ htwin => effectiveWeight_cases boost r i (htwin.trans (hasTwin_iff r i).symm), rfl⟩
  obtain rfl := (mem_positions6.1 hp).1
  rw [evalAt_bc6h hfmt] at heval
  rw [evalBc6h_error_eq_decoded hfmt hf (Nat.lt_succ_of_le hm) hm1 hp heval]
  refine congrArg List.sum (List.map_congr_left fun i hi => ?_)
  have hpixel : px.getD i [] = pixel6 (cfgSigned r.cfg) p.mode (candidateBlock6 c) i := by
    rw [hpx]
    exact getD_map_pixels _ (List.mem_range.1 (List.mem_filter.1 hi).1) _
  rw [hpixel]

/-! ### The range of the error (46_index_assign.md R303) -/

theorem sum_map_le {α : Type} {l : List α} {g : α → Nat} {n B : Nat} (hlen : l.length ≤ n) (hg : ∀ x ∈ l, g x ≤ B) :
    (l.map g).sum ≤ n * B := by
  have hsum := List.sum_le_card_nsmul (l.map g) B (by simpa using hg)
  rw [List.length_map, smul_eq_mul] at hsum
  exact hsum.trans (Nat.mul_le_mul_right B hlen)

/-- A sum over the valid slots, with importance weights from a multiplier of at most 5. -/
theorem weightedSum_le {boost : Nat} (hboost : boost ≤ 5) (r : RwRegs) {n B : Nat} {g : Nat → Nat → Nat}
    (hg : ∀ i : Fin 16, ∀ ch < n, g i ch ≤ B) :
    ((pixels.filter fun i => slotValid r.tiledim i).map fun i =>
      effectiveWeight boost r i * ((List.range n).map (g i)).sum).sum ≤ 16 * (1275 * (n * B)) := by
  refine sum_map_le (List.length_filter_le _ _) fun i hi => ?_
  obtain ⟨i, rfl⟩ : ∃ j : Fin 16, j.val = i := ⟨⟨i, List.mem_range.1 (List.mem_filter.1 hi).1⟩, rfl⟩
  exact Nat.mul_le_mul (effectiveWeight_le hboost r i)
    (sum_map_le List.length_range.le fun ch hch => hg i ch (List.mem_range.1 hch))

/-- Every value of the BC7 vector is a byte, and every channel weight at most 255^2 (41_tile.md R181, R184). -/
theorem tile_bc7_range {r : RwRegs} (hfmt : cfgFormat r.cfg = .bc7) (i : Fin 16) {ch : Nat} (hch : ch < 4) :
    (tileVector r i).getD ch 0 ∈ Set.Icc 0 255 ∧ (channelWeights r i).getD ch 0 ≤ 65025 := by
  have halpha := sourceAlpha_lt r i
  have hsquare : sourceAlpha r i ^ 2 ≤ 255 ^ 2 := Nat.pow_le_pow_left (by omega) 2
  rw [tileVector_bc7 hfmt, sourceVector_eq, channelWeights_bc7 hfmt, Set.mem_Icc]
  constructor
  · interval_cases ch <;> simp <;> omega
  · split <;> interval_cases ch <;> simp <;> omega

theorem workingVector_range (r : RwRegs) (i : Fin 16) {ch : Nat} (hch : ch < 3) :
    (workingVector r i).getD ch 0 ∈ Set.Icc (-31743) 31743 := by
  have hlen : ch < (workingVector r i).length := by rw [workingVector_eq]; exact hch
  rw [List.getD_eq_getElem _ _ hlen]
  obtain ⟨h, hh, heq⟩ := List.mem_map.1 (List.getElem_mem hlen)
  rw [← heq]
  exact h2wValue_range _ (pixChannels_lt r i h (List.mem_of_mem_take hh))

theorem natAbs_sub_sq_le {x y lo hi : Int} {d : Nat} (hx : x ∈ Set.Icc lo hi) (hy : y ∈ Set.Icc lo hi)
    (hd : hi - lo ≤ d) : (x - y).natAbs ^ 2 ≤ d ^ 2 := by
  obtain ⟨hx1, hx2⟩ := hx
  obtain ⟨hy1, hy2⟩ := hy
  exact Nat.pow_le_pow_left (by omega) 2

theorem getD_le {l : List Nat} {B : Nat} (hl : ∀ x ∈ l, x ≤ B) (i : Nat) : l.getD i 0 ≤ B := by
  rcases Nat.lt_or_ge i l.length with hlt | hge
  · rw [List.getD_eq_getElem _ _ hlt]
    exact hl _ (List.getElem_mem hlt)
  · rw [List.getD_eq_default _ _ hge]
    exact Nat.zero_le B

theorem rotate_le {l : List Nat} {B : Nat} (hl : ∀ x ∈ l, x ≤ B) (rot : Nat) : ∀ x ∈ rotate l rot, x ≤ B := by
  intro x hx
  unfold rotate at hx
  split at hx
  · exact hl x hx
  · rcases List.mem_or_eq_of_mem_set hx with hx | rfl
    · rcases List.mem_or_eq_of_mem_set hx with hx | rfl
      · exact hl x hx
      · exact getD_le hl 3
    · exact getD_le hl (rot - 1)

/-- A channel of a decoded BC7 pixel is a byte, whatever the rotation. -/
theorem pixel7_evalBlock7_le {f : Fitter} {t : Tile} {p : Position} (hf : TotalFitter f) (hm : p.mode < 8)
    (hp : p ∈ positions7 p.mode) {i : Nat} (hi : i < 16) (ch : Nat) :
    (pixel7 p.mode (evalBlock7 f t p) i).getD ch 0 ≤ 255 := by
  refine getD_le (rotate_le (fun x hx => ?_) _) ch
  obtain ⟨ch', hch', rfl⟩ := List.mem_map.1 hx
  exact Int.toNat_le.2 (channel7_evalBlock7_range hf hm hp hi (List.mem_range.1 hch')).2

theorem evalBc7_error_lt {f : Fitter} {boost : Nat} {r : RwRegs} {p : Position} (hf : TotalFitter f)
    (hboost : boost ≤ 5) (hfmt : cfgFormat r.cfg = .bc7) (hm : p.mode < 8) (hp : p ∈ positions7 p.mode) :
    (evalBc7 f (prepareTile boost r) p).1 < 2 ^ 49 := by
  rw [evalBc7_error_eq_decoded hfmt boost hf hm hp]
  refine (weightedSum_le hboost r (B := 65025 * 255 ^ 2) fun i ch hch => ?_).trans_lt (by decide)
  obtain ⟨hv, hw⟩ := tile_bc7_range hfmt i hch
  have hq := pixel7_evalBlock7_le (t := prepareTile boost r) hf hm hp i.isLt ch
  exact Nat.mul_le_mul hw (natAbs_sub_sq_le ⟨by omega, by omega⟩ hv (by decide))

theorem evalBc6h_error_lt {f : Fitter} {boost : Nat} {r : RwRegs} {p : Position} {e : Nat} {c : Candidate}
    (hf : TotalFitter f) (hboost : boost ≤ 5) (hfmt : cfgFormat r.cfg = .bc6h) (hm : p.mode < 15) (hm1 : 1 ≤ p.mode)
    (hp : p ∈ positions6 p.mode) (heval : evalBc6h f (prepareTile boost r) (cfgSigned r.cfg) p = some (e, c)) :
    e < 2 ^ 49 := by
  rw [evalBc6h_error_eq_decoded hfmt hf hm hm1 hp heval]
  refine (weightedSum_le hboost r (B := 63486 ^ 2) fun i ch hch => ?_).trans_lt (by decide)
  refine natAbs_sub_sq_le (h2wValue_range _ ?_) (workingVector_range r i hch) (by decide)
  rw [pixel6, getD_map_range _ hch]
  exact (w2hValue_finite _ _).2.2

/-- Settles O32: sixteen slots of weight at most 1275, and the range of the decoded channels in either format. -/
theorem candidateErrorBelow2Pow49 : Obligations.CandidateErrorBelow2Pow49 := by
  refine ⟨fun f boost r m p e c hf hboost hfmt hm hp heval => ?_,
    fun f boost r m p e c hf hboost hfmt hm1 hm hp heval => ?_⟩
  · obtain rfl := (mem_positions7.1 hp).1
    rw [evalAt_bc7 hfmt, Option.some_inj] at heval
    have hlt := evalBc7_error_lt hf hboost hfmt hm hp
    rwa [heval] at hlt
  · obtain rfl := (mem_positions6.1 hp).1
    rw [evalAt_bc6h hfmt] at heval
    exact evalBc6h_error_lt hf hboost hfmt (Nat.lt_succ_of_le hm) hm1 hp heval

end Sys2Proof.Machine

/-! SUPPORT. The selection (47_mode_selector.md R325): evaluating positions in order keeps the first candidate of least
error. -/

namespace Sys2Proof.Machine

/-- `(e, b)` is the first of the valid candidates of a list whose error no other one undercuts (47_mode_selector.md
R325); an INVALID candidate is `none`. -/
def FirstLeast (vals : List (Option (Nat × Candidate))) (e : Nat) (b : Candidate) : Prop :=
  ∃ j, vals[j]? = some (some (e, b)) ∧
    ∀ (k e' : Nat) (b' : Candidate), vals[k]? = some (some (e', b')) → e ≤ e' ∧ (e' = e → j ≤ k)

/-- BEST and BEST_ERR after the candidates of a list were offered in order: none while all are INVALID, else the first
of least error. -/
inductive Selected (vals : List (Option (Nat × Candidate))) (c : CandRegs) : Prop
  /-- No candidate was valid. -/
  | empty (best : c.best = none) (bestErr : c.bestErr = none) (invalid : ∀ x ∈ vals, x = none)
  /-- A candidate was kept. -/
  | found (e : Nat) (b : Candidate) (best : c.best = some b) (bestErr : c.bestErr = some e)
      (least : FirstLeast vals e b)

section

variable {vals : List (Option (Nat × Candidate))} {x : Option (Nat × Candidate)} {e : Nat} {b : Candidate}

/-- An element of a list with one more at its end is an old one or the last. -/
theorem getElem?_concat_cases {α : Type} {l : List α} {x y : α} {k : Nat} (h : (l ++ [x])[k]? = some y) :
    l[k]? = some y ∨ (k = l.length ∧ x = y) := by
  obtain ⟨hk, rfl⟩ := List.getElem?_eq_some_iff.1 h
  rcases Nat.lt_or_ge k l.length with hlt | hge
  · exact .inl (by simp [hlt])
  · rw [List.length_append, List.length_singleton] at hk
    exact .inr ⟨by omega, by simp [show k = l.length by omega]⟩

theorem FirstLeast.mem (h : FirstLeast vals e b) : some (e, b) ∈ vals := by
  obtain ⟨j, hj, -⟩ := h
  exact List.mem_of_getElem? hj

theorem FirstLeast.le (h : FirstLeast vals e b) {e' : Nat} {b' : Candidate} (hmem : some (e', b') ∈ vals) :
    e ≤ e' := by
  obtain ⟨j, -, hmin⟩ := h
  obtain ⟨k, hk⟩ := List.mem_iff_getElem?.1 hmem
  exact (hmin k e' b' hk).1

/-- A candidate that is not strictly better leaves the first least. -/
theorem FirstLeast.concat (h : FirstLeast vals e b) (hx : ∀ e' b', x = some (e', b') → e ≤ e') :
    FirstLeast (vals ++ [x]) e b := by
  obtain ⟨j, hj, hmin⟩ := h
  obtain ⟨hlt, -⟩ := List.getElem?_eq_some_iff.1 hj
  refine ⟨j, by rw [List.getElem?_append_left hlt, hj], fun k e' b' hk => ?_⟩
  obtain hold | ⟨rfl, hlast⟩ := getElem?_concat_cases hk
  · exact hmin k e' b' hold
  · exact ⟨hx e' b' hlast, fun _ => hlt.le⟩

/-- A candidate strictly better than all before it is the first least. -/
theorem firstLeast_concat_of_lt (h : ∀ e' b', some (e', b') ∈ vals → e < e') :
    FirstLeast (vals ++ [some (e, b)]) e b := by
  refine ⟨vals.length, by simp, fun k e' b' hk => ?_⟩
  obtain hold | ⟨rfl, hlast⟩ := getElem?_concat_cases hk
  · have hlt := h e' b' (List.mem_of_getElem? hold)
    exact ⟨hlt.le, fun heq => absurd heq hlt.ne'⟩
  · cases hlast
    exact ⟨le_rfl, fun _ => le_rfl⟩

end

section

variable {vals : List (Option (Nat × Candidate))} {c : CandRegs}

/-- One more candidate is offered. -/
theorem Selected.offer (h : Selected vals c) (p : Position) (x : Option (Nat × Candidate)) :
    Selected (vals ++ [x]) (c.offer p x) := by
  obtain ⟨rfl, herr, hbest⟩ | ⟨e, b, rfl, hbetter, herr, hbest⟩ | ⟨e, b, e₀, rfl, hold, hle, herr, hbest⟩ :=
    offer_bestErr c p x
  case inl =>
    cases h with
    | empty hb he hinv => exact .empty (hbest.trans hb) (herr.trans he) (by simpa [or_imp, forall_and] using hinv)
    | found e b hb he hleast => exact .found e b (hbest.trans hb) (herr.trans he) (hleast.concat nofun)
  case inr.inl =>
    refine .found e b hbest herr (firstLeast_concat_of_lt fun e' b' hmem => ?_)
    cases h with
    | empty hb he hinv => exact absurd (hinv _ hmem) nofun
    | found e₁ b₁ hb he hleast =>
      obtain hnone | ⟨e₂, he₂, hlt⟩ := hbetter
      · cases he.symm.trans hnone
      · cases he.symm.trans he₂
        exact hlt.trans_le (hleast.le hmem)
  case inr.inr =>
    cases h with
    | empty hb he hinv => cases he.symm.trans hold
    | found e₁ b₁ hb he hleast =>
      cases he.symm.trans hold
      exact .found e₀ b₁ (hbest.trans hb) herr (hleast.concat fun e' b' heq => by cases heq; exact hle)

theorem Selected.best_none_iff (h : Selected vals c) : c.best = none ↔ ∀ x ∈ vals, x = none := by
  cases h with
  | empty hb he hinv => exact ⟨fun _ => hinv, fun _ => hb⟩
  | found e b hb he hleast => exact ⟨fun hn => (nomatch hb.symm.trans hn), fun hinv => nomatch hinv _ hleast.mem⟩

theorem Selected.best_none_iff_bestErr (h : Selected vals c) : c.best = none ↔ c.bestErr = none := by
  cases h with
  | empty hb he hinv => exact ⟨fun _ => he, fun _ => hb⟩
  | found e b hb he hleast =>
    exact ⟨fun hn => (nomatch hb.symm.trans hn), fun hn => (nomatch he.symm.trans hn)⟩

theorem Selected.firstLeast (h : Selected vals c) {e : Nat} {b : Candidate} (hbest : c.best = some b)
    (hbestErr : c.bestErr = some e) : FirstLeast vals e b := by
  cases h with
  | empty hb he hinv => cases hb.symm.trans hbest
  | found e b hb he hleast =>
    cases hb.symm.trans hbest
    cases he.symm.trans hbestErr
    exact hleast

/-- Once a valid candidate was offered, one is kept, with an error at most its own. -/
theorem Selected.found_of_mem (h : Selected vals c) {e : Nat} {b : Candidate} (hmem : some (e, b) ∈ vals) :
    ∃ e' b', c.best = some b' ∧ c.bestErr = some e' ∧ some (e', b') ∈ vals ∧ e' ≤ e := by
  cases h with
  | empty hb he hinv => exact nomatch hinv _ hmem
  | found e' b' hb he hleast => exact ⟨e', b', hb, he, hleast.mem, hleast.le hmem⟩

end

section

variable (f : Fitter) (r : RwRegs) (t : Tile)

theorem evalPositions_append (ps qs : List Position) (c : CandRegs) :
    evalPositions f r t (ps ++ qs) c = evalPositions f r t qs (evalPositions f r t ps c) :=
  List.foldl_append

/-- Evaluating positions from the start keeps the first candidate of least error (47_mode_selector.md R325). -/
theorem selected_evalPositions {c : CandRegs} (hbest : c.best = none) (hbestErr : c.bestErr = none)
    (ps : List Position) : Selected (ps.map (evalAt f r t)) (evalPositions f r t ps c) := by
  induction ps using List.reverseRecOn with
  | nil => exact .empty hbest hbestErr (by simp)
  | append_singleton ps p ih =>
    rw [List.map_append, evalPositions_append]
    exact ih.offer p (evalAt f r t p)

/-- An evaluation from the start of the candidate registers. -/
theorem selected_from_start (P : Params) (fmt : Format) (ps : List Position) :
    Selected (ps.map (evalAt f r t)) (evalPositions f r t ps (CandRegs.start P fmt)) :=
  selected_evalPositions f r t rfl rfl ps

end

/-- Settles O25: an offer replaces or keeps BEST as R325 says, and over a list of positions the candidate kept is the
first least. -/
theorem selectionKeepsFirstLeast : Obligations.SelectionKeepsFirstLeast := by
  refine ⟨fun c d p e b hc hd => ?_, fun _ _ => ⟨rfl, rfl⟩, fun f r t ps c0 c hbest hbestErr hc => ?_⟩
  · subst hd
    obtain ⟨hx, -⟩ | ⟨e, b, hx, hbetter, herr, hbest⟩ | ⟨e, b, e₀, hx, hold, hle, herr, hbest⟩ :=
      offer_bestErr c p (some (e, b))
    · cases hx
    · cases hx
      refine ⟨fun _ => ⟨hbest, herr⟩, fun ⟨e', he', hle⟩ => ?_⟩
      obtain hnone | ⟨e₁, he₁, hlt⟩ := hbetter
      · cases he'.symm.trans hnone
      · cases he'.symm.trans he₁
        omega
    · cases hx
      refine ⟨fun h => ?_, fun _ => ⟨hbest, herr.trans hold.symm⟩⟩
      obtain hnone | ⟨e', he', hlt⟩ := h
      · cases hold.symm.trans (hc.1 hnone)
      · cases hold.symm.trans he'
        omega
  · have hsel := selected_evalPositions f r t hbest hbestErr ps
    rw [← hc] at hsel
    refine ⟨by simpa using hsel.best_none_iff, hsel.best_none_iff_bestErr, fun b e hb he => ?_⟩
    obtain ⟨j, hj, hmin⟩ := hsel.firstLeast hb he
    obtain ⟨p, hp, heval⟩ : ∃ p, ps[j]? = some p ∧ evalAt f r t p = some (e, b) := by simpa using hj
    refine ⟨j, p, hp, heval, fun k q e' b' hq heval' => hmin k e' b' ?_⟩
    rw [List.getElem?_map, hq, Option.map_some, heval']

end Sys2Proof.Machine

/-! SUPPORT. The enumeration of the candidates (47_mode_selector.md R322, R328) and the early exit between BC7 modes
(R324). -/

namespace Sys2Proof.Machine

/-! ### The early exit -/

/-- The early-exit condition holds under EXHAUSTIVE = 0 with a BEST_ERR below THRESH (47_mode_selector.md R324). -/
theorem earlyExit_iff {r : RwRegs} {c : CandRegs} :
    earlyExit r c = true ↔ cfgExhaustive r.cfg = false ∧ ∃ e, c.bestErr = some e ∧ e < thresh r := by
  unfold earlyExit
  cases c.bestErr <;> simp

section

variable {f : Fitter} {r : RwRegs} {t : Tile}

/-- The BC7 search evaluates the modes of its order up to the first check that finds the early-exit condition. -/
theorem searchBc7_eq_take (ms : List Nat) (c : CandRegs) : ∃ k, k ≤ ms.length ∧
    searchBc7 f r t ms c = evalPositions f r t ((ms.take k).flatMap positions7) c ∧
    (k < ms.length → earlyExit r (searchBc7 f r t ms c) = true) ∧
    ∀ j < k, earlyExit r (evalPositions f r t ((ms.take j).flatMap positions7) c) = false := by
  induction ms generalizing c with
  | nil => exact ⟨0, le_rfl, rfl, by simp, by simp⟩
  | cons m ms ih =>
    cases hexit : earlyExit r c with
    | true =>
      have hstop : searchBc7 f r t (m :: ms) c = c := by simp [searchBc7, hexit]
      exact ⟨0, Nat.zero_le _, hstop, fun _ => by rw [hstop, hexit], by simp⟩
    | false =>
      have hgo : searchBc7 f r t (m :: ms) c = searchBc7 f r t ms (evalPositions f r t (positions7 m) c) := by
        simp [searchBc7, hexit]
      have hfirst (j : Nat) : evalPositions f r t (((m :: ms).take (j + 1)).flatMap positions7) c =
          evalPositions f r t ((ms.take j).flatMap positions7) (evalPositions f r t (positions7 m) c) := by
        rw [List.take_succ_cons, List.flatMap_cons, evalPositions_append]
      obtain ⟨k, hk, hrun, hlast, hbefore⟩ := ih (evalPositions f r t (positions7 m) c)
      refine ⟨k + 1, Nat.succ_le_succ hk, by rw [hgo, hrun, hfirst], fun hlt => ?_, fun j hj => ?_⟩
      · rw [hgo]
        exact hlast (Nat.lt_of_succ_lt_succ hlt)
      · cases j with
        | zero => exact hexit
        | succ j => rw [hfirst]; exact hbefore j (Nat.lt_of_succ_lt_succ hj)

/-- With EXHAUSTIVE = 1 the BC7 search evaluates every candidate (47_mode_selector.md R324, R334). -/
theorem searchBc7_exhaustive (hex : cfgExhaustive r.cfg = true) (ms : List Nat) (c : CandRegs) :
    searchBc7 f r t ms c = evalPositions f r t (ms.flatMap positions7) c := by
  obtain ⟨k, hk, hrun, hlast, -⟩ := searchBc7_eq_take (f := f) (r := r) (t := t) ms c
  have hall : k = ms.length := hk.eq_of_not_lt fun hlt => by
    obtain ⟨hnot, -⟩ := earlyExit_iff.1 (hlast hlt)
    exact absurd hex (by simp [hnot])
  rw [hrun, hall, List.take_length]

variable (f t) {P : Params}

theorem runSearch_forced (hforce : forceEn r.force = true) : runSearch f P r t =
    evalPositions f r t [forcedPosition r.force] (CandRegs.start P (cfgFormat r.cfg)) := by
  simp [runSearch, hforce]

theorem runSearch_bc7 (hforce : forceEn r.force = false) (hfmt : cfgFormat r.cfg = .bc7) :
    runSearch f P r t = searchBc7 f r t P.modeOrderBc7 (CandRegs.start P .bc7) := by
  simp [runSearch, hforce, hfmt]

theorem runSearch_bc6h (hforce : forceEn r.force = false) (hfmt : cfgFormat r.cfg = .bc6h) :
    runSearch f P r t = evalPositions f r t (P.modeOrderBc6h.flatMap positions6) (CandRegs.start P .bc6h) := by
  simp [runSearch, hforce, hfmt, searchBc6h]

end

/-! ### The enumeration -/

/-- A mode without rotation and index selection has one position per shape (47_mode_selector.md R322). -/
theorem positions7_of_plain {m : Nat} (hsep : bc7SeparateAlpha m = false) :
    positions7 m = (List.range (bc7Shapes m)).map fun s => ⟨m, s, 0, 0⟩ := by
  have hm4 : m ≠ 4 := by rintro rfl; cases hsep
  simp [positions7, hsep, hm4, ← List.map_eq_flatMap]

/-- The BC6H modes 1 to 10 have 32 shapes (42_partition_lut.md R205). -/
theorem bc6hShapes_of_le : ∀ m ≤ 10, 1 ≤ m → bc6hShapes m = 32 := by decide

/-- Settles O26: the modes before the first check that stops, and the enumeration mode by mode. -/
theorem earlyExitBetweenModes : Obligations.EarlyExitBetweenModes := by
  refine ⟨fun f P r t hforce hfmt => ?_, fun f P r t => runSearch_bc6h f t, rfl, rfl, by decide, by decide, by decide,
    fun m hm => ?_, positions7_of_plain rfl, fun m hlo hhi => by rw [positions6, bc6hShapes_of_le m hhi hlo],
    by decide, by decide +kernel, by decide +kernel⟩
  · obtain ⟨k, hk, hrun, hlast, hbefore⟩ :=
      searchBc7_eq_take (f := f) (r := r) (t := t) P.modeOrderBc7 (CandRegs.start P .bc7)
    rw [runSearch_bc7 f t hforce hfmt]
    refine ⟨k, hk, hrun, fun hlt => earlyExit_iff.1 (hlast hlt), fun j e hj he => ?_⟩
    by_contra hnot
    obtain ⟨hex, hthresh⟩ := not_or.1 hnot
    have hexit := earlyExit_iff.2 ⟨by simpa using hex, e, he, not_le.1 hthresh⟩
    exact absurd (hbefore j hj) (by simp [hexit])
  · have hplain : ∀ m ∈ [1, 2, 3, 7], bc7SeparateAlpha m = false ∧ bc7Shapes m = 64 := by decide
    obtain ⟨hsep, hshapes⟩ := hplain m hm
    rw [positions7_of_plain hsep, hshapes]

end Sys2Proof.Machine

/-! SUPPORT. What ENCODE commits (47_mode_selector.md R320, R333): its checks, the positions its search evaluates, RINFO
and the mode of the committed block. -/

namespace Sys2Proof.Machine

/-! ### The checks and the two ends -/

theorem encodeChecks_eq_ok_iff {r : RwRegs} : encodeChecks r = .ok () ↔ cfgAlpha r.cfg ≠ 3 ∧
    tileDimLegal r.tiledim = true ∧ (forceEn r.force = true → forceConfigLegal r = true ∧ forceShapeLegal r = true) := by
  unfold encodeChecks
  split_ifs <;> simp_all

theorem tileDimLegal_iff {t : Word} :
    tileDimLegal t = true ↔ (1 ≤ tileW t ∧ tileW t ≤ 4) ∧ (1 ≤ tileH t ∧ tileH t ≤ 4) := by
  simp [tileDimLegal]

theorem slotValid_iff {t : Word} {i : Nat} : slotValid t i = true ↔ i % 4 < tileW t ∧ i / 4 < tileH t := by
  simp [slotValid]

/-- The first slot of a legal tile is valid. -/
theorem slotValid_zero {t : Word} (h : tileDimLegal t = true) : slotValid t 0 = true := by
  obtain ⟨⟨hw, -⟩, hh, -⟩ := tileDimLegal_iff.1 h
  exact slotValid_iff.2 ⟨hw, hh⟩

theorem tileWritten_iff {r : RwRegs} : tileWritten r = true ↔
    ∀ i : Fin 16, slotValid r.tiledim i = true → r.wrLo[i] = true ∧ r.wrHi[i] = true := by
  have hslot (i : Fin 16) : slotWritten r i = (r.wrLo[i] && r.wrHi[i]) := by simp [slotWritten]
  simp only [tileWritten, pixels, List.all_eq_true, List.mem_range, Bool.or_eq_true, Bool.not_eq_true',
    ← Bool.not_eq_true, ← imp_iff_not_or]
  constructor
  · intro h i hi
    simpa [hslot] using h i i.isLt hi
  · intro h i hi hvalid
    simpa [hslot ⟨i, hi⟩] using h ⟨i, hi⟩ hvalid

theorem exec_encode_of_ready {s : State} (h : encodeReady s.inputs) : exec .encode s =
    .next (s.commitSearch (cfgFormat s.inputs.cfg) (encodeSearch s.params s.inputs)) := by
  obtain ⟨hchecks, hwritten⟩ := h
  have hexec : exec .encode s = execEncode s := rfl
  simp [hexec, execEncode, hchecks, hwritten]

section

variable {s : State} {fmt : Format} {c : CandRegs}

theorem commitSearch_of_best {b : Candidate} (hbest : c.best = some b) : s.commitSearch fmt c =
    s.commit (packCandidate fmt b) (rinfoWord fmt b.position false) (c.bestErr.getD 0) false := by
  simp [State.commitSearch, hbest]

theorem commitSearch_of_none (hbest : c.best = none) : s.commitSearch fmt c =
    s.commit (fallbackBlock fmt) (rinfoWord fmt (fallbackPosition fmt) true) 0 true := by
  simp [State.commitSearch, hbest]

end

/-- A commit changes OUT, RINFO, RERR, STATUS and the sequencer only (47_mode_selector.md R333). -/
theorem State.commit_frame {s t : State} {blk : Block} {info : Word} {err : Nat} {fb : Bool}
    (ht : t = s.commit blk info err fb) : t = { s with
      out := t.out, rinfo := t.rinfo, rerrLo := t.rerrLo, rerrHi := t.rerrHi, status := t.status, seq := .idle } := by
  subst ht; rfl

theorem commitSearch_frame {s t : State} {fmt : Format} {c : CandRegs} (ht : t = s.commitSearch fmt c) :
    t = { s with
      out := t.out, rinfo := t.rinfo, rerrLo := t.rerrLo, rerrHi := t.rerrHi, status := t.status, seq := .idle } := by
  obtain ⟨b, -, hb⟩ | ⟨-, hb⟩ := commitSearch_cases s fmt c
  · exact State.commit_frame (ht.trans hb)
  · exact State.commit_frame (ht.trans hb)

/-- The two words of RERR hold the low 64 bits of the error (10_state.md R40, log 18). -/
theorem rerr_words (err : Nat) :
    (wordOf (bitsOf err 0 32)).toNat + 2 ^ 32 * (wordOf (bitsOf err 32 32)).toNat = err % 2 ^ 64 := by
  rw [toNat_wordOf (bitsOf_lt _ _ _), toNat_wordOf (bitsOf_lt _ _ _)]
  simp only [bitsOf]
  omega

/-! ### The positions an ENCODE evaluates -/

/-- A position of the enumeration of a format (47_mode_selector.md R322, R328), the only ones FORCE may name (R331). -/
def LegalPosition (fmt : Format) (p : Position) : Prop :=
  match fmt with
  | .bc7 => p.mode < 8 ∧ p ∈ positions7 p.mode
  | .bc6h => p.mode ∈ bc6hModes ∧ p ∈ positions6 p.mode

theorem mem_bc6hModes {m : Nat} : m ∈ bc6hModes ↔ 1 ≤ m ∧ m < 15 := by simp [bc6hModes]

theorem legalPosition_bc7 {p : Position} (hm : p.mode < 8) (hp : p ∈ positions7 p.mode) : LegalPosition .bc7 p :=
  ⟨hm, hp⟩

theorem legalPosition_bc6h {p : Position} (hm : p.mode ∈ bc6hModes) (hp : p ∈ positions6 p.mode) :
    LegalPosition .bc6h p :=
  ⟨hm, hp⟩

/-- The fields of RINFO hold every position of the enumeration (10_state.md R39). -/
theorem LegalPosition.fits {fmt : Format} {p : Position} (h : LegalPosition fmt p) :
    p.mode < 16 ∧ p.shape < 64 ∧ p.rot < 4 ∧ p.isb < 2 := by
  cases fmt with
  | bc7 =>
    obtain ⟨hm, hp⟩ : p.mode < 8 ∧ p ∈ positions7 p.mode := h
    have hrot := rot_lt_of_mem_positions7 hp
    have hisb := isb_of_mem_positions7 hp
    exact ⟨by omega, shape_lt_of_mem_positions7 hm hp, hrot, by omega⟩
  | bc6h =>
    obtain ⟨hm, hp⟩ : p.mode ∈ bc6hModes ∧ p ∈ positions6 p.mode := h
    obtain ⟨hlo, hhi⟩ := mem_bc6hModes.1 hm
    obtain ⟨-, -, hrot, hisb⟩ := mem_positions6.1 hp
    exact ⟨by omega, shape_lt_of_mem_positions6 hhi hlo hp, by omega, by omega⟩

/-- The checks of FORCE accept positions of the enumeration only (47_mode_selector.md R331). -/
theorem legalPosition_forced {r : RwRegs} (hcfg : forceConfigLegal r = true) (hshape : forceShapeLegal r = true) :
    LegalPosition (cfgFormat r.cfg) (forcedPosition r.force) := by
  have hrot : forceRot r.force < 4 := fieldOf_lt r.force 11 2
  have hisb : forceIsb r.force < 2 := fieldOf_lt r.force 13 1
  unfold forceConfigLegal at hcfg
  unfold forceShapeLegal at hshape
  cases hfmt : cfgFormat r.cfg with
  | bc7 =>
    simp only [hfmt, Bool.and_eq_true, Bool.or_eq_true, decide_eq_true_eq, beq_iff_eq] at hcfg hshape
    obtain ⟨⟨hm, hrot0⟩, hisb0⟩ := hcfg
    refine legalPosition_bc7 (Nat.lt_succ_of_le hm) (mem_positions7.2 ⟨rfl, hshape, ?_, ?_⟩)
    · show forceRot r.force < if bc7SeparateAlpha (forceMode r.force) = true then 4 else 1
      split_ifs with hsep
      · exact hrot
      · rw [hrot0.resolve_right hsep]; exact one_pos
    · show forceIsb r.force < if forceMode r.force = 4 then 2 else 1
      split_ifs with hm4
      · exact hisb
      · rw [hisb0.resolve_right hm4]; exact one_pos
  | bc6h =>
    simp only [hfmt, Bool.and_eq_true, decide_eq_true_eq, beq_iff_eq] at hcfg hshape
    obtain ⟨⟨⟨hlo, hhi⟩, hrot0⟩, hisb0⟩ := hcfg
    exact legalPosition_bc6h (mem_bc6hModes.2 ⟨hlo, Nat.lt_succ_of_le hhi⟩)
      (mem_positions6.2 ⟨rfl, hshape, hrot0, hisb0⟩)

theorem mem_modeOrderBc7_iff {P : Params} (hP : P.Legal) {m : Nat} : m ∈ P.modeOrderBc7 ↔ m < 8 := by
  rw [hP.orderBc7.mem_iff]
  exact List.mem_range (n := 8)

theorem mem_modeOrderBc6h_iff {P : Params} (hP : P.Legal) {m : Nat} : m ∈ P.modeOrderBc6h ↔ m ∈ bc6hModes :=
  hP.orderBc6h.mem_iff

/-- The search of an ENCODE that passes its checks evaluates positions of the enumeration only. -/
theorem runSearch_legal {P : Params} (hP : P.Legal) {r : RwRegs}
    (hforced : forceEn r.force = true → forceConfigLegal r = true ∧ forceShapeLegal r = true) (f : Fitter) (t : Tile) :
    ∃ ps, (∀ p ∈ ps, LegalPosition (cfgFormat r.cfg) p) ∧
      runSearch f P r t = evalPositions f r t ps (CandRegs.start P (cfgFormat r.cfg)) := by
  cases hforce : forceEn r.force with
  | true =>
    obtain ⟨hcfg, hshape⟩ := hforced hforce
    exact ⟨[forcedPosition r.force], by simpa using legalPosition_forced hcfg hshape, runSearch_forced f t hforce⟩
  | false =>
    cases hfmt : cfgFormat r.cfg with
    | bc7 =>
      obtain ⟨k, -, hrun, -⟩ := searchBc7_eq_take (f := f) (r := r) (t := t) P.modeOrderBc7 (CandRegs.start P .bc7)
      refine ⟨_, fun p hp => ?_, (runSearch_bc7 f t hforce hfmt).trans hrun⟩
      obtain ⟨m, hm, hp⟩ := List.mem_flatMap.1 hp
      obtain ⟨rfl, -⟩ := mem_positions7.1 hp
      exact legalPosition_bc7 ((mem_modeOrderBc7_iff hP).1 (List.mem_of_mem_take hm)) hp
    | bc6h =>
      refine ⟨_, fun p hp => ?_, runSearch_bc6h f t hforce hfmt⟩
      obtain ⟨m, hm, hp⟩ := List.mem_flatMap.1 hp
      obtain ⟨rfl, -⟩ := mem_positions6.1 hp
      exact legalPosition_bc6h ((mem_modeOrderBc6h_iff hP).1 hm) hp

/-! ### The position of the winner -/

/-- A BC6H candidate is valid exactly if its mode is untransformed or its deltas fit (47_mode_selector.md R327). -/
theorem evalBc6h_isSome_iff {f : Fitter} {t : Tile} {signed : Bool} {p : Position} :
    (∃ e c, evalBc6h f t signed p = some (e, c)) ↔
      ((bc6hMode p.mode).transformed = true → deltasFit p.mode (evalEnds6 f t signed p) = true) := by
  refine ⟨fun ⟨e, c, heval⟩ => (evalBc6h_eq_some heval).1, fun hfit => ?_⟩
  have hvalid : ((bc6hMode p.mode).transformed && !deltasFit p.mode (evalEnds6 f t signed p)) = false := by
    cases htr : (bc6hMode p.mode).transformed with
    | false => rfl
    | true => simp [hfit htr]
  exact ⟨_, _, if_neg (by simpa [evalEnds6] using hvalid)⟩

/-- A BC6H candidate has no rotation and no index selection (47_mode_selector.md R328). -/
theorem evalBc6h_rot_isb {f : Fitter} {t : Tile} {signed : Bool} {p : Position} {e : Nat} {c : Candidate}
    (heval : evalBc6h f t signed p = some (e, c)) : c.rot = 0 ∧ c.isb = 0 := by
  unfold evalBc6h at heval
  dsimp only at heval
  split at heval
  next => cases heval
  next =>
    cases heval
    exact ⟨rfl, rfl⟩

/-- A candidate reports the position it was evaluated at (47_mode_selector.md R321). -/
theorem position_of_evalAt {f : Fitter} {r : RwRegs} {t : Tile} {p : Position} {e : Nat} {c : Candidate}
    (hp : LegalPosition (cfgFormat r.cfg) p) (heval : evalAt f r t p = some (e, c)) : c.position = p := by
  cases hfmt : cfgFormat r.cfg with
  | bc7 =>
    rw [evalAt_bc7 hfmt, Option.some_inj] at heval
    obtain ⟨hmode, hshape, hrot, hisb, -⟩ := evalBc7_fields (f := f) (t := t) (p := p)
    rw [heval] at hmode hshape hrot hisb
    rw [Candidate.position, hmode, hshape, hrot, hisb]
  | bc6h =>
    rw [hfmt] at hp
    obtain ⟨-, hmem⟩ : p.mode ∈ bc6hModes ∧ p ∈ positions6 p.mode := hp
    obtain ⟨-, -, hrot0, hisb0⟩ := mem_positions6.1 hmem
    rw [evalAt_bc6h hfmt] at heval
    obtain ⟨-, -, hmode, hshape, -⟩ := evalBc6h_eq_some heval
    obtain ⟨hrot, hisb⟩ := evalBc6h_rot_isb heval
    rw [Candidate.position, hmode, hshape, hrot.trans hrot0.symm, hisb.trans hisb0.symm]

/-- The winner of an ENCODE that passes its checks stands at a position of the enumeration. -/
theorem legalPosition_winner {P : Params} (hP : P.Legal) {r : RwRegs}
    (hforced : forceEn r.force = true → forceConfigLegal r = true ∧ forceShapeLegal r = true) {b : Candidate}
    (hbest : (encodeSearch P r).best = some b) : LegalPosition (cfgFormat r.cfg) b.position := by
  obtain ⟨ps, hlegal, hrun⟩ := runSearch_legal hP hforced (fit P.fitIters) (prepareTile P.impBoost r)
  rw [encodeSearch, hrun] at hbest
  cases selected_from_start (fit P.fitIters) r (prepareTile P.impBoost r) P (cfgFormat r.cfg) ps with
  | empty hnone _ _ => cases hnone.symm.trans hbest
  | found e b' hb _ hleast =>
    cases hb.symm.trans hbest
    obtain ⟨p, hp, heval⟩ := List.mem_map.1 hleast.mem
    rw [position_of_evalAt (hlegal p hp) heval]
    exact hlegal p hp

/-! ### RINFO -/

/-- The fields of RINFO (10_state.md R39) that a legal position fits. -/
theorem rinfoWord_fields {fmt : Format} {p : Position} (hp : LegalPosition fmt p) (fb : Bool) :
    fieldOf (rinfoWord fmt p fb) 1 4 = p.mode ∧ fieldOf (rinfoWord fmt p fb) 5 6 = p.shape ∧
    fieldOf (rinfoWord fmt p fb) 11 2 = p.rot ∧ fieldOf (rinfoWord fmt p fb) 13 1 = p.isb ∧
    fieldOf (rinfoWord fmt p fb) 14 1 = fb.toNat ∧ fieldOf (rinfoWord fmt p fb) 15 1 = formatBit fmt ∧
    fieldOf (rinfoWord fmt p fb) 16 16 = 0 := by
  obtain ⟨hmode, hshape, hrot, hisb⟩ := hp.fits
  have hfb : fb.toNat < 2 := fb.toNat_lt
  have hbit : formatBit fmt < 2 := by cases fmt <;> decide
  simp only [fieldOf, bitsOf, rinfoWord, wordOf, BitVec.toNat_ofNat, packFields]
  omega

theorem formatBit_eq (fmt : Format) : formatBit fmt = if fmt = .bc7 then 0 else 1 := by cases fmt <;> rfl

theorem rinfoWord_fallback (fmt : Format) :
    rinfoWord fmt (fallbackPosition fmt) true = if fmt = .bc7 then 0x00004001 else 0x0000C003 := by
  cases fmt <;> decide

/-- Settles O19: the checks pass, so the step commits the search, whose winner fits the fields of RINFO. -/
theorem encodeCommits : Obligations.EncodeCommits := by
  intro s hP halpha hw hh hforced hwritten
  have hready : encodeReady s.inputs :=
    ⟨encodeChecks_eq_ok_iff.2 ⟨halpha, tileDimLegal_iff.2 ⟨hw, hh⟩, hforced⟩,
      tileWritten_iff.2 fun i hi => hwritten i (slotValid_iff.1 hi).1 (slotValid_iff.1 hi).2⟩
  refine ⟨_, _, exec_encode_of_ready hready, rfl, commitSearch_frame rfl, fun b hbest => ?_, fun hbest => ?_⟩
  · have hlegal := legalPosition_winner hP hforced hbest
    obtain ⟨hmode, hshape, hrot, hisb, hfb, hfmt, hrest⟩ := rinfoWord_fields hlegal false
    rw [commitSearch_of_best hbest]
    exact ⟨rfl, rinfoWord_valid _ _ _, hmode, hshape, hrot, hisb, hfb, hfmt.trans (formatBit_eq _), hrest,
      rerr_words _, completedOk_statusCompleted _ _⟩
  · rw [commitSearch_of_none hbest]
    exact ⟨rfl, rinfoWord_fallback _, rfl, rfl, completedOk_statusCompleted _ _⟩

/-! ### The committed block -/

/-- The words of OUT hold the block (10_state.md R41). -/
theorem blockOfWords_wordsOfBlock (b : Block) : blockOfWords (wordsOfBlock b) = b := by
  have hlt := b.isLt
  apply BitVec.eq_of_toNat_eq
  simp only [blockOfWords, wordsOfBlock, wordOf, bitsOf, packFields, BitVec.toNat_ofNat]
  simp
  omega

/-- The unary code of a packed BC7 block is its mode's, whatever the fields (30_encoding.md R131). -/
theorem getMode7_pack7_of_lt {m : Nat} (hm : m < 8) (b : Block7) : getMode7 (pack7 m b) = some m := by
  have hcode : 2 ^ m < 2 ^ (m + 1) := Nat.pow_lt_pow_right (by decide) (by omega)
  rw [getMode7_eq_some_iff, pack7_eq, packFields, BitVec.toNat_ofNat,
    Nat.mod_mod_of_dvd _ (Nat.pow_dvd_pow 2 (by omega)), Nat.add_mul_mod_self_left, Nat.mod_mod, Nat.mod_eq_of_lt hcode]
  exact ⟨hm, rfl⟩

/-- The mode field of a packed BC6H block is its mode's, whatever the fields (30_encoding.md R132). -/
theorem getMode6_pack6_of_mem {m : Nat} (hm : m ∈ bc6hModes) (b : Block6) : getMode6 (pack6 m b) = some m := by
  have hcodes : ∀ m ∈ bc6hModes, (bc6hMode m).code % 2 ^ bc6hCodeWidth m = (bc6hMode m).code := by decide
  have hwidth : Seg6.width ⟨.m, bc6hCodeWidth m - 1, 0⟩ = bc6hCodeWidth m := by
    unfold Seg6.width bc6hCodeWidth; split <;> rfl
  obtain ⟨gs, hgs⟩ := bc6hLayout_mode_first m hm
  rw [getMode6_eq_some_iff hm, pack6_eq, bc6hHeader, hgs, List.map_cons, List.cons_append, packFields, hwidth,
    BitVec.toNat_ofNat, Nat.mod_mod_of_dvd _ (Nat.pow_dvd_pow 2 ((bc6hCodeWidth_le m).trans (by decide))),
    Nat.add_mul_mod_self_left, Nat.mod_mod]
  simpa [headerValue] using hcodes m hm

/-- A packed candidate has its mode (47_mode_selector.md R333). -/
theorem blockMode_packCandidate {fmt : Format} {b : Candidate} (h : LegalPosition fmt b.position) :
    blockMode fmt (packCandidate fmt b) = some b.mode := by
  cases fmt with
  | bc7 => exact getMode7_pack7_of_lt h.1 _
  | bc6h => exact getMode6_pack6_of_mem h.1 _

/-- The fallback block has the mode that RINFO reports of it (47_mode_selector.md R332). -/
theorem blockMode_fallbackBlock (fmt : Format) :
    blockMode fmt (fallbackBlock fmt) = some (rinfoMode (rinfoWord fmt (fallbackPosition fmt) true)) := by
  cases fmt <;> decide

/-- Settles O22: OUT holds the packed winner or the fallback block, and RINFO its mode. -/
theorem encodeBlockNeverReserved : Obligations.EncodeBlockNeverReserved := by
  intro s hP hready
  obtain ⟨-, -, hforced⟩ := encodeChecks_eq_ok_iff.1 hready.1
  refine ⟨_, exec_encode_of_ready hready, ?_⟩
  obtain ⟨b, hbest, hcommit⟩ | ⟨-, hcommit⟩ :=
    commitSearch_cases s (cfgFormat s.inputs.cfg) (encodeSearch s.params s.inputs)
  · have hlegal := legalPosition_winner hP hforced hbest
    obtain ⟨hmode, -⟩ := rinfoWord_fields hlegal false
    rw [hcommit, State.commit_out, State.commit_rinfo, blockOfWords_wordsOfBlock, blockMode_packCandidate hlegal,
      rinfoMode, hmode]
    rfl
  · rw [hcommit, State.commit_out, State.commit_rinfo, blockOfWords_wordsOfBlock, blockMode_fallbackBlock]

end Sys2Proof.Machine

/-! SUPPORT. When a search finds a winner and when ENCODE falls back (47_mode_selector.md R329, R330, R332), and the
exhaustive search against the heuristic one (R334). -/

namespace Sys2Proof.Machine

/-! ### Unforced searches find a winner -/

/-- Every BC7 candidate is valid, and every candidate of the untransformed modes 10 and 11 (47_mode_selector.md
R329). -/
theorem evalAt_valid (f : Fitter) {r : RwRegs} (t : Tile) {p : Position}
    (h : cfgFormat r.cfg = .bc7 ∨ p.mode = 10 ∨ p.mode = 11) : ∃ e c, evalAt f r t p = some (e, c) := by
  cases hfmt : cfgFormat r.cfg with
  | bc7 => exact ⟨_, _, evalAt_bc7 hfmt t p⟩
  | bc6h =>
    have huntransformed : (bc6hMode p.mode).transformed = false := by
      obtain hbc7 | h10 | h11 := h
      · cases hfmt.symm.trans hbc7
      · rw [h10]; rfl
      · rw [h11]; rfl
    rw [evalAt_bc6h hfmt]
    exact evalBc6h_isSome_iff.2 fun htr => by cases huntransformed.symm.trans htr

section

variable {P : Params} (hP : P.Legal) {r : RwRegs} (hforce : forceEn r.force = false) (f : Fitter) (t : Tile)
include hP hforce

/-- An unforced BC7 search finds a winner: it stops early with one only, and the whole enumeration has one. -/
theorem runSearch_bestErr_bc7 (hfmt : cfgFormat r.cfg = .bc7) : ∃ e, (runSearch f P r t).bestErr = some e := by
  obtain ⟨k, hk, hrun, hlast, -⟩ := searchBc7_eq_take (f := f) (r := r) (t := t) P.modeOrderBc7 (CandRegs.start P .bc7)
  rw [runSearch_bc7 f t hforce hfmt]
  rcases hk.lt_or_eq with hlt | rfl
  · obtain ⟨-, e, he, -⟩ := earlyExit_iff.1 (hlast hlt)
    exact ⟨e, he⟩
  · have hmem : (⟨0, 0, 0, 0⟩ : Position) ∈ (P.modeOrderBc7.take P.modeOrderBc7.length).flatMap positions7 := by
      rw [List.take_length]
      exact List.mem_flatMap.2 ⟨0, (mem_modeOrderBc7_iff hP).2 (by decide), by decide⟩
    obtain ⟨e, c, heval⟩ := evalAt_valid f t (p := ⟨0, 0, 0, 0⟩) (.inl hfmt)
    obtain ⟨e', -, -, he', -⟩ := (selected_from_start f r t P .bc7 _).found_of_mem
      (List.mem_map.2 ⟨_, hmem, heval⟩)
    exact ⟨e', by rw [hrun, he']⟩

/-- An unforced BC6H search finds a winner at most as bad as any valid candidate of the enumeration. -/
theorem runSearch_bestErr_bc6h (hfmt : cfgFormat r.cfg = .bc6h) {p : Position} (hp : LegalPosition .bc6h p) {e : Nat}
    {c : Candidate} (heval : evalAt f r t p = some (e, c)) :
    ∃ e' b, (runSearch f P r t).best = some b ∧ (runSearch f P r t).bestErr = some e' ∧ e' ≤ e := by
  obtain ⟨hm, hp⟩ : p.mode ∈ bc6hModes ∧ p ∈ positions6 p.mode := hp
  have hmem : p ∈ P.modeOrderBc6h.flatMap positions6 :=
    List.mem_flatMap.2 ⟨p.mode, (mem_modeOrderBc6h_iff hP).2 hm, hp⟩
  obtain ⟨e', b, hb, he', -, hle⟩ := (selected_from_start f r t P .bc6h _).found_of_mem
    (List.mem_map.2 ⟨p, hmem, heval⟩)
  rw [runSearch_bc6h f t hforce hfmt]
  exact ⟨e', b, hb, he', hle⟩

/-- An unforced search finds a winner (47_mode_selector.md R329). -/
theorem runSearch_best : ∃ b, (runSearch f P r t).best = some b := by
  cases hfmt : cfgFormat r.cfg with
  | bc7 =>
    obtain ⟨e, he⟩ := runSearch_bestErr_bc7 hP hforce f t hfmt
    obtain ⟨ps, -, hrun⟩ := runSearch_legal hP (fun h => by cases hforce.symm.trans h) f t
    rw [hrun] at he ⊢
    refine Option.ne_none_iff_exists'.1 fun hnone => ?_
    cases he.symm.trans ((selected_from_start f r t P _ ps).best_none_iff_bestErr.1 hnone)
  | bc6h =>
    obtain ⟨e, c, heval⟩ := evalAt_valid f t (r := r) (p := ⟨10, 0, 0, 0⟩) (.inr (.inl rfl))
    obtain ⟨-, b, hb, -⟩ := runSearch_bestErr_bc6h hP hforce f t hfmt ⟨by decide, by decide⟩ heval
    exact ⟨b, hb⟩

end

/-- Settles O23: the untransformed modes are always valid, so an unforced search has a winner, which is committed
without the fallback flags. -/
theorem encodeUnforcedHasWinner : Obligations.EncodeUnforcedHasWinner := by
  refine ⟨fun f boost r p => evalAt_valid f (prepareTile boost r), fun s hP hready hforce => ?_⟩
  obtain ⟨b, hbest⟩ := runSearch_best hP hforce (fit s.params.fitIters) (prepareTile s.params.impBoost s.inputs)
  have hbest : (encodeSearch s.params s.inputs).best = some b := hbest
  obtain ⟨-, -, hforced⟩ := encodeChecks_eq_ok_iff.1 hready.1
  obtain ⟨-, -, -, -, hfallback, -⟩ := rinfoWord_fields (legalPosition_winner hP hforced hbest) false
  obtain ⟨-, -, -, -, -, hstatus⟩ := completedOk_statusCompleted s.status false
  refine ⟨by simp [hbest], _, exec_encode_of_ready hready, ?_⟩
  rw [commitSearch_of_best hbest]
  exact ⟨hstatus, hfallback⟩

/-! ### The fallback -/

/-- The words of the fallback blocks (47_mode_selector.md R332). -/
theorem wordsOfBlock_fallbackBlock : wordsOfBlock (fallbackBlock .bc7) = #v[1, 0, 0, 0] ∧
    wordsOfBlock (fallbackBlock .bc6h) = #v[0, 0, 0, 0] := by decide

/-- Settles O24: a forced search offers one candidate, and an INVALID one leaves BEST empty. -/
theorem invalidForcedCandidateFallsBack : Obligations.InvalidForcedCandidateFallsBack := by
  obtain ⟨hwords7, hwords6⟩ := wordsOfBlock_fallbackBlock
  refine ⟨fun s hready hforce hfmt hinvalid => ?_, fun s c hnone => ?_⟩
  · have hnone : (encodeSearch s.params s.inputs).best = none := by
      rw [encodeSearch, runSearch_forced _ _ hforce]
      refine (selected_from_start _ _ _ _ _ _).best_none_iff.2 ?_
      simpa [evalAt_bc6h hfmt] using hinvalid
    refine ⟨_, exec_encode_of_ready hready, ?_⟩
    rw [commitSearch_of_none hnone, hfmt, State.commit, hwords6, rinfoWord_fallback]
    exact ⟨rfl, completedOk_statusCompleted s.status true⟩
  · rw [commitSearch_of_none hnone]
    exact ⟨hwords7, rinfoWord_fallback .bc7, rfl, rfl, completedOk_statusCompleted s.status true⟩

/-! ### Exhaustive and heuristic search (47_mode_selector.md R334) -/

/-- Two words of CFG that agree in every field but EXHAUSTIVE. -/
structure SameButExhaustive (c c' : Word) : Prop where
  format : cfgFormat c = cfgFormat c'
  signed : cfgSigned c = cfgSigned c'
  alpha : cfgAlpha c = cfgAlpha c'
  impMap : cfgImpMap c = cfgImpMap c'

/-- Masking with ones over a field leaves it. -/
theorem fieldOf_and (c : Word) {m : Word} {lo n : Nat} (h : m.extractLsb' lo n = BitVec.allOnes n) :
    fieldOf (c &&& m) lo n = fieldOf c lo n := by
  rw [fieldOf_eq_extract, fieldOf_eq_extract, BitVec.extractLsb'_and, h, BitVec.and_allOnes]

/-- Setting bits outside a field leaves it. -/
theorem fieldOf_or (c : Word) {m : Word} {lo n : Nat} (h : m.extractLsb' lo n = 0#n) :
    fieldOf (c ||| m) lo n = fieldOf c lo n := by
  rw [fieldOf_eq_extract, fieldOf_eq_extract, BitVec.extractLsb'_or, h, BitVec.or_zero]

theorem sameButExhaustive_clear (c : Word) : SameButExhaustive (c &&& 0xFFFFFFEF) c where
  format := by rw [cfgFormat, fieldOf_and c (by decide), cfgFormat]
  signed := by rw [cfgSigned, fieldOf_and c (by decide), cfgSigned]
  alpha := by rw [cfgAlpha, fieldOf_and c (by decide), cfgAlpha]
  impMap := by rw [cfgImpMap, fieldOf_and c (by decide), cfgImpMap]

theorem sameButExhaustive_set (c : Word) : SameButExhaustive (c ||| 0x10) c where
  format := by rw [cfgFormat, fieldOf_or c (by decide), cfgFormat]
  signed := by rw [cfgSigned, fieldOf_or c (by decide), cfgSigned]
  alpha := by rw [cfgAlpha, fieldOf_or c (by decide), cfgAlpha]
  impMap := by rw [cfgImpMap, fieldOf_or c (by decide), cfgImpMap]

theorem cfgExhaustive_set (c : Word) : cfgExhaustive (c ||| 0x10) = true := by
  have hones : (0x10 : Word).extractLsb' 4 1 = BitVec.allOnes 1 := by decide
  rw [cfgExhaustive, fieldOf_eq_extract, BitVec.extractLsb'_or, hones, BitVec.or_allOnes]
  rfl

section

variable {r : RwRegs} {c : Word} (h : SameButExhaustive c r.cfg)
include h

/-- The prepared tile does not depend on EXHAUSTIVE. -/
theorem prepareTile_of_sameButExhaustive (boost : Nat) :
    prepareTile boost { r with cfg := c } = prepareTile boost r := by
  obtain ⟨hfmt, hsigned, halpha, himp⟩ := h
  have hsource : sourceVector { r with cfg := c } = sourceVector r := by
    funext i; simp only [sourceVector, halpha]; rfl
  have hworking : workingVector { r with cfg := c } = workingVector r := by
    funext i; simp only [workingVector, hsigned]; rfl
  have hvec : tileVector { r with cfg := c } = tileVector r := by
    funext i; simp only [tileVector, hfmt, hsource, hworking]
  have hcw : channelWeights { r with cfg := c } = channelWeights r := by
    funext i; simp only [channelWeights, hfmt, halpha, hsource]
  have heff : effectiveWeight boost { r with cfg := c } = effectiveWeight boost r := by
    funext i; simp only [effectiveWeight, hasTwin, himp, hvec]; rfl
  simp only [prepareTile, hvec, hcw, heff]

/-- No evaluation depends on EXHAUSTIVE. -/
theorem evalPositions_of_sameButExhaustive (f : Fitter) (t : Tile) (ps : List Position) (c₀ : CandRegs) :
    evalPositions f { r with cfg := c } t ps c₀ = evalPositions f r t ps c₀ := by
  obtain ⟨hfmt, hsigned, -, -⟩ := h
  simp only [evalPositions, evalAt, hfmt, hsigned]

end

/-- The first modes of an order give the first positions of its enumeration. -/
theorem flatMap_take_eq_take {α β : Type} (g : α → List β) (l : List α) (k : Nat) :
    (l.take k).flatMap g = (l.flatMap g).take ((l.take k).flatMap g).length := by
  conv_rhs => rw [← List.take_append_drop k l, List.flatMap_append]
  simp

/-- Evaluating positions beyond the first ones keeps a minimum (47_mode_selector.md R325, R334). -/
theorem bestErr_le_of_take (f : Fitter) (r : RwRegs) (t : Tile) (P : Params) (fmt : Format) {ps : List Position}
    {k e : Nat} (h : (evalPositions f r t (ps.take k) (CandRegs.start P fmt)).bestErr = some e) :
    ∃ e', (evalPositions f r t ps (CandRegs.start P fmt)).bestErr = some e' ∧ e' ≤ e := by
  cases selected_from_start f r t P fmt (ps.take k) with
  | empty _ hnone _ => cases hnone.symm.trans h
  | found e₁ b _ he hleast =>
    cases he.symm.trans h
    have hmem := hleast.mem
    rw [List.map_take] at hmem
    obtain ⟨e', -, -, he', -, hle⟩ := (selected_from_start f r t P fmt ps).found_of_mem (List.mem_of_mem_take hmem)
    exact ⟨e', he', hle⟩

/-- Settles O27: the heuristic search evaluates the first of the positions of the exhaustive one. -/
theorem exhaustiveNeverWorse : Obligations.ExhaustiveNeverWorse := by
  intro f P r h x t hP hfmt hforce hh hx ht
  have hsameh := sameButExhaustive_clear r.cfg
  have hsamex := sameButExhaustive_set r.cfg
  have hfmth : cfgFormat h.cfg = .bc7 := by rw [hh]; exact hsameh.format.trans hfmt
  have hfmtx : cfgFormat x.cfg = .bc7 := by rw [hx]; exact hsamex.format.trans hfmt
  have hforceh : forceEn h.force = false := by rw [hh]; exact hforce
  have hforcex : forceEn x.force = false := by rw [hx]; exact hforce
  have heval (ps : List Position) (c : CandRegs) : evalPositions f h t ps c = evalPositions f x t ps c := by
    rw [hh, hx, evalPositions_of_sameButExhaustive hsameh, evalPositions_of_sameButExhaustive hsamex]
  have hexhaustive : runSearch f P x t =
      evalPositions f x t (P.modeOrderBc7.flatMap positions7) (CandRegs.start P .bc7) := by
    rw [runSearch_bc7 f t hforcex hfmtx, searchBc7_exhaustive (by rw [hx]; exact cfgExhaustive_set r.cfg)]
  obtain ⟨k, hheuristic⟩ : ∃ k, runSearch f P h t =
      evalPositions f x t ((P.modeOrderBc7.flatMap positions7).take k) (CandRegs.start P .bc7) := by
    obtain ⟨k, -, hrun, -⟩ := searchBc7_eq_take (f := f) (r := h) (t := t) P.modeOrderBc7 (CandRegs.start P .bc7)
    exact ⟨_, by rw [runSearch_bc7 f t hforceh hfmth, hrun, heval, flatMap_take_eq_take]⟩
  obtain ⟨eh, heh⟩ := runSearch_bestErr_bc7 hP hforceh f t hfmth
  obtain ⟨ex, hex, hle⟩ := bestErr_le_of_take f x t P .bc7 (hheuristic ▸ heh)
  refine ⟨by rw [hh, ht, prepareTile_of_sameButExhaustive hsameh],
    by rw [hx, ht, prepareTile_of_sameButExhaustive hsamex], eh, ex, heh, hexhaustive ▸ hex, hle, k, hheuristic,
    hexhaustive⟩

end Sys2Proof.Machine

/-! SUPPORT. A constant BC6H tile (47_mode_selector.md R336): the candidate of mode 14 is valid and has no error. -/

namespace Sys2Proof.Machine

/-! ### The working range through the quantizer of precision 16 -/

/-- The working values of a format (40_half_float.md R160). -/
def workingRange (signed : Bool) : Set Int := if signed then Set.Icc (-31743) 31743 else Set.Icc 0 31743

theorem h2wValue_mem_workingRange (signed : Bool) {h : Nat} (hlt : h < 2 ^ 16) :
    h2wValue signed h ∈ workingRange signed := by
  cases signed with
  | true => exact h2wValue_range true hlt
  | false =>
    show 0 ≤ h2wValue false h ∧ h2wValue false h ≤ 31743
    rcases Nat.lt_or_ge h (2 ^ 15) with hclear | hset
    · rw [h2wValue_of_lt false hclear]; omega
    · rw [h2wValue_of_ge false hset hlt, if_neg Bool.false_ne_true]; decide

theorem workingVector_mem_workingRange (r : RwRegs) (i : Fin 16) :
    ∀ x ∈ workingVector r i, x ∈ workingRange (cfgSigned r.cfg) := by
  intro x hx
  obtain ⟨h, hh, rfl⟩ := List.mem_map.1 hx
  exact h2wValue_mem_workingRange _ (pixChannels_lt r i h (List.mem_of_mem_take hh))

/-- Quantizing to 16 bits loses nothing of the working range (47_mode_selector.md R336). -/
theorem fin6_uq6_q6_exact {signed : Bool} {x : Int} (hx : x ∈ workingRange signed) :
    fin6 signed (uq6 signed (q6 signed x 16) 16) = x := by
  have hbias : q6Bias 16 = 32767 := by decide
  cases signed with
  | false =>
    obtain ⟨hlo, hhi⟩ : 0 ≤ x ∧ x ≤ 31743 := hx
    have hclamp : max 0 (min 31743 x) = x := by omega
    show fin6U (uq6U (q6U x 16) 16) = x
    rw [q6U_intCast, hclamp, hbias, uq6U, if_pos (by decide), fin6U]
    omega
  | true =>
    obtain ⟨hlo, hhi⟩ : -31743 ≤ x ∧ x ≤ 31743 := hx
    show fin6S (uq6S (q6S x 16) 16) = x
    rw [q6S_intCast, hbias, uq6S, if_pos (by decide), fin6S]
    split_ifs <;> omega

/-- The codes of a vector under the precision of mode 14. -/
def codes16 (signed : Bool) (v : List Int) : List Int := v.map fun x : Int => q6 signed x 16

/-! ### A palette between equal endpoints -/

theorem lerp_self (x : Int) {w : Nat} (hw : w ≤ 64) : lerp x x w = x := by
  simpa using lerp_mem_Icc hw (Set.left_mem_Icc.2 (le_refl x)) (Set.left_mem_Icc.2 (le_refl x))

/-- Every entry between equal endpoints is their finished value (45_palette.md R281, R283). -/
theorem palette6_self (signed : Bool) (p b : Nat) (q : List Int) :
    palette6 signed p b q q = List.replicate (2 ^ b) (q.map fun x => fin6 signed (uq6 signed x p)) := by
  simp [palette6, List.zipWith_self, lerp_self _ (weight_le_max b _)]

/-- Between a vector's codes of 16 bits every entry is the vector. -/
theorem palette6_codes16 {signed : Bool} {v : List Int} (hrange : ∀ x ∈ v, x ∈ workingRange signed) (b : Nat) :
    palette6 signed 16 b (codes16 signed v) (codes16 signed v) = List.replicate (2 ^ b) v := by
  have hexact : (codes16 signed v).map (fun x => fin6 signed (uq6 signed x 16)) = v := by
    rw [codes16, List.map_map]
    exact (List.map_congr_left fun x hx => fin6_uq6_q6_exact (hrange x hx)).trans (List.map_id v)
  rw [palette6_self, hexact]

/-- An entry equal to the pixel's vector has no error (46_index_assign.md R300). -/
theorem entryError_self (ww : List Nat) (v : List Int) : entryError ww v v = 0 := by
  refine List.sum_eq_zero fun x hx => ?_
  obtain ⟨i, hi, rfl⟩ := List.mem_iff_getElem.1 hx
  simp

/-- A palette of copies of the pixel's own vector meets it without error (46_index_assign.md R300). -/
theorem nearestEntry_replicate_self (ww : List Nat) (v : List Int) {n lim : Nat} (hpos : 0 < lim) (hlim : lim ≤ n) :
    (nearestEntry ww v (List.replicate n v) lim).2 = 0 := by
  obtain ⟨hlt, herr, -⟩ := nearestEntry_spec hpos (by simpa using hlim)
    (Prod.mk.eta (p := nearestEntry ww v (List.replicate n v) lim)).symm
  rw [herr, List.getD_replicate _ (by omega), entryError_self]

/-! ### The candidate of mode 14 -/

/-- The one position of BC6H mode 14. -/
def mode14 : Position := ⟨14, 0, 0, 0⟩

theorem legalPosition_mode14 : LegalPosition .bc6h mode14 := ⟨by decide, by decide⟩

/-- A one-region shape has all valid pixels in its region. -/
theorem regionPixels_one (t : Tile) (s : Nat) : regionPixels t 1 s 0 = validPixels t := by
  simp [regionPixels_eq, region]

/-- Equal endpoints have zero deltas, which fit every field (44_quantizer.md R248). -/
theorem deltaFits_zero (db : Nat) : deltaFits 0 db = true := by
  simp [deltaFits]

theorem deltasFit_of_equal_ends (m : Nat) {E : Ends} (hE : E.a = E.b) : deltasFit m [E] = true := by
  simp [deltasFit, endsInOrder, hE, deltaFits_zero]

section

variable {t : Tile} {v : List Int} (hlen : v.length = 3) (hne : validPixels t ≠ [])
  (hconst : ∀ i ∈ validPixels t, t.vec.getD i [] = v)
include hlen hne hconst

/-- The reference fit of a constant tile is its one vector, twice (43_endpoint_fitter.md R225). -/
theorem fitPixels_constant (iters : Nat) :
    fitPixels (fit iters) 3 (fun i => t.vec.getD i []) t.imp (validPixels t) =
      (v.map fun x => (x : Rat), v.map fun x => (x : Rat)) := by
  have hpoints : (validPixels t).map (fun i => (t.vec.getD i []).take 3) =
      List.replicate (validPixels t).length v := by
    rw [← List.map_const']
    exact List.map_congr_left fun i hi => by rw [hconst i hi, List.take_of_length_le hlen.le]
  rw [fitPixels, hpoints]
  exact fitDegenerateRegion.2 iters 3 _ v _ hlen (List.length_pos_iff.2 hne) (by simp)

/-- The quantized pair of mode 14 on a constant tile: the codes of its vector, twice. -/
theorem evalEnds6_constant (iters : Nat) (signed : Bool) : evalEnds6 (fit iters) t signed mode14 =
    [⟨codes16 signed v, codes16 signed v, 0, 0⟩] := by
  have hmode : bc6hMode mode14.mode = ⟨0x0F, 1, true, 16, 4, 4, 4, 4, 65⟩ := rfl
  simp only [evalEnds6, quantizeRegion6, hmode, List.range_one, List.map_singleton, regionPixels_one,
    fitPixels_constant hlen hne hconst, map_coe_int, List.map_map]
  rfl

variable (iters : Nat) {signed : Bool} (hrange : ∀ x ∈ v, x ∈ workingRange signed)
include hrange

/-- Every entry of the palette is the pixel's vector. -/
theorem choice6_mode14_constant {i : Nat} (hi : i ∈ validPixels t) :
    (choice6 (fit iters) t signed mode14 0 i).2 = 0 := by
  obtain ⟨hpos, hle⟩ := indexLimit_range (b := 4) (by decide) ((anchors 1 0).contains i)
  have hchoice := nearestEntry_replicate_self ((t.cw.getD i []).map fun c => t.imp.getD i 0 * c) v hpos hle
  rw [← palette6_codes16 hrange] at hchoice
  rw [choice6, evalEnds6_constant hlen hne hconst, hconst i hi]
  exact hchoice

/-- The candidate of mode 14 is valid and has error 0 (47_mode_selector.md R336). -/
theorem evalBc6h_mode14_constant : ∃ c, evalBc6h (fit iters) t signed mode14 = some (0, c) := by
  obtain ⟨e, c, heval⟩ : ∃ e c, evalBc6h (fit iters) t signed mode14 = some (e, c) :=
    evalBc6h_isSome_iff.2 fun _ => by
      rw [evalEnds6_constant hlen hne hconst]
      exact deltasFit_of_equal_ends _ rfl
  obtain ⟨-, herr, -⟩ := evalBc6h_eq_some heval
  have hzero : e = 0 := by
    rw [herr, assignmentError_of_perm (assignment6_perm (by decide) (by decide) (by decide))]
    refine List.sum_eq_zero fun x hx => ?_
    obtain ⟨i, hi, rfl⟩ := List.mem_map.1 hx
    exact choice6_mode14_constant hlen hne hconst iters hrange hi
  exact ⟨c, hzero ▸ heval⟩

end

/-- The prepared tile of equal working vectors under BC6H has an exact candidate. -/
theorem evalAt_mode14_constant {r : RwRegs} (hfmt : cfgFormat r.cfg = .bc6h) (hdim : tileDimLegal r.tiledim = true)
    {v : List Int} (hconst : ∀ i, i < 16 → slotValid r.tiledim i = true → workingVector r i = v) (iters boost : Nat) :
    ∃ c, evalAt (fit iters) r (prepareTile boost r) mode14 = some (0, c) := by
  have hv : workingVector r 0 = v := hconst 0 (by decide) (slotValid_zero hdim)
  have hlen : v.length = 3 := by rw [← hv]; exact congrArg List.length (workingVector_eq r 0)
  have hrange : ∀ x ∈ v, x ∈ workingRange (cfgSigned r.cfg) := hv ▸ workingVector_mem_workingRange r 0
  have hvalid {i : Nat} : i ∈ validPixels (prepareTile boost r) ↔ i < 16 ∧ slotValid r.tiledim i = true := by
    rw [validPixels_prepareTile, List.mem_filter]
    exact and_congr_left' List.mem_range
  have hne : validPixels (prepareTile boost r) ≠ [] :=
    List.ne_nil_of_mem (hvalid.2 ⟨by decide, slotValid_zero hdim⟩)
  have hvec : ∀ i ∈ validPixels (prepareTile boost r), (prepareTile boost r).vec.getD i [] = v := by
    intro i hi
    obtain ⟨hi16, hslot⟩ := hvalid.1 hi
    rw [prepareTile_vec _ _ hi16, tileVector_bc6h hfmt, hconst i hi16 hslot]
  rw [evalAt_bc6h hfmt]
  exact evalBc6h_mode14_constant hlen hne hvec iters hrange

/-- Settles O28: the candidate of mode 14 has error 0, and the winner's error is at most that. -/
theorem constantBc6hTileIsExact : Obligations.ConstantBc6hTileIsExact := by
  intro s v hP hready hfmt hforce hconst
  obtain ⟨-, hdim, -⟩ := encodeChecks_eq_ok_iff.1 hready.1
  obtain ⟨c, heval⟩ := evalAt_mode14_constant hfmt hdim hconst s.params.fitIters s.params.impBoost
  obtain ⟨e, b, (hbest : (encodeSearch s.params s.inputs).best = some b),
    (hbestErr : (encodeSearch s.params s.inputs).bestErr = some e), hle⟩ :=
    runSearch_bestErr_bc6h hP hforce _ _ hfmt legalPosition_mode14 heval
  obtain rfl : e = 0 := Nat.le_zero.1 hle
  obtain ⟨-, -, herr, -, -, hfallback⟩ := completedOk_statusCompleted s.status false
  refine ⟨_, exec_encode_of_ready hready, ?_⟩
  rw [commitSearch_of_best hbest, hbestErr]
  exact ⟨rfl, rfl, herr, hfallback⟩

end Sys2Proof.Machine

/-! SUPPORT. From a block to its fields and back: reading the fields of a block and packing them gives the block
(48_packer_bc7.md R369, 49_packer_bc6h.md R392). -/

namespace Sys2Proof.Machine

/-! ### Fields read and packed again -/

/-- What is read from a field fits it. -/
theorem fitsWidths_readFields (ws : List Nat) (x : Nat) : fitsWidths ws (readFields ws x).1 = true := by
  induction ws generalizing x with
  | nil => rfl
  | cons w ws ih =>
    have hlt : x % 2 ^ w < 2 ^ w := Nat.mod_lt _ (Nat.two_pow_pos w)
    simp [readFields, fitsWidths, ih, hlt]

/-- Widths and values given by one function each of the same index. -/
theorem fitsWidths_map {α : Type} {l : List α} {w v : α → Nat} (h : ∀ x ∈ l, v x < 2 ^ w x) :
    fitsWidths (l.map w) (l.map v) = true := by
  rw [fitsWidths_iff, List.forall₂_map_left_iff, List.forall₂_map_right_iff, List.forall₂_same]
  exact h

theorem exists_of_fitsWidths_cons {w : Nat} {ws vs : List Nat} (h : fitsWidths (w :: ws) vs = true) :
    ∃ v vs', v < 2 ^ w ∧ fitsWidths ws vs' = true ∧ vs = v :: vs' := by
  obtain ⟨v, vs', hv, hvs, rfl⟩ := List.forall₂_cons_left_iff.1 (fitsWidths_iff.1 h)
  exact ⟨v, vs', hv, fitsWidths_iff.2 hvs, rfl⟩

/-- What reading fields leaves is what stands above them. -/
theorem readFields_snd (ws : List Nat) (x : Nat) : (readFields ws x).2 = x / 2 ^ ws.sum := by
  induction ws generalizing x with
  | nil => simp [readFields]
  | cons w ws ih => rw [readFields, ih, Nat.div_div_eq_div_mul, ← pow_add, List.sum_cons]

/-- Packing what was read, below fields that pack to what was left, gives the number back. -/
theorem packFields_zip_readFields {ws : List Nat} {x : Nat} {gs : List (Nat × Nat)}
    (hrest : packFields gs = (readFields ws x).2) : packFields (ws.zip (readFields ws x).1 ++ gs) = x := by
  induction ws generalizing x with
  | nil => exact hrest
  | cons w ws ih =>
    have htail := ih (x := x / 2 ^ w) hrest
    simp only [readFields, List.zip_cons_cons, List.cons_append, packFields, htail, Nat.mod_mod]
    exact Nat.mod_add_div x (2 ^ w)

/-- The same for the last fields, above which nothing stands. -/
theorem packFields_zip_readFields_last {ws : List Nat} {x : Nat} (hrest : (readFields ws x).2 = 0) :
    packFields (ws.zip (readFields ws x).1) = x := by
  simpa using packFields_zip_readFields (gs := []) hrest.symm

/-- Packing cuts each value to its width. -/
theorem packFields_append_eq_zip (fs gs : List (Nat × Nat)) : packFields (fs ++ gs) =
    packFields ((fs.map Prod.fst).zip (fs.map fun f => f.2 % 2 ^ f.1) ++ gs) := by
  induction fs with
  | nil => rfl
  | cons f fs ih => simp [packFields, ih]

/-! ### BC7 -/

/-- Reading 128 bits leaves nothing of a block. -/
theorem block_div_eq_zero (blk : Block) {n : Nat} (hn : n = 128) : blk.toNat / 2 ^ n = 0 :=
  Nat.div_eq_of_lt (hn ▸ blk.isLt)

theorem unpack7_wf (m : Nat) (blk : Block) : (unpack7 m blk).wf m = true := by
  refine Block7.wf_iff.2 ⟨?_, ?_, ?_, ?_, ?_, ?_⟩ <;> exact fitsWidths_readFields _ _

/-- The fields that were read pack to what stands above the mode bits. -/
theorem packFields_unpack7 {m : Nat} (hm : m < 8) (blk : Block) :
    packFields (bc7Fields m (unpack7 m blk)) = blk.toNat / 2 ^ (m + 1) := by
  have hsum := bc7_widths_sum m hm _ (Block7.shape_lt (unpack7_wf m blk))
  refine packFields_zip_readFields (packFields_zip_readFields (packFields_zip_readFields (packFields_zip_readFields
    (packFields_zip_readFields (packFields_zip_readFields_last ?_)))))
  simp only [readFields_snd, Nat.div_div_eq_div_mul, ← pow_add]
  refine block_div_eq_zero blk ?_
  simpa [unpack7, Nat.add_assoc] using hsum

/-- Packing the fields of a block of mode `m` gives the block back (48_packer_bc7.md R369). -/
theorem pack7_unpack7 {m : Nat} {blk : Block} (h : getMode7 blk = some m) : pack7 m (unpack7 m blk) = blk := by
  obtain ⟨hm, hcode⟩ := getMode7_eq_some_iff.1 h
  apply BitVec.eq_of_toNat_eq
  rw [toNat_pack7 hm (unpack7_wf m blk), packFields_unpack7 hm, ← hcode]
  exact Nat.mod_add_div _ _

theorem encodeBlock_bc7Row {m : Nat} (hm : m < 8) (b : Block7) : encodeBlock (bc7Row m b) = pack7 m b := by
  interval_cases m <;> rfl

theorem bc7Row_wf {m : Nat} (hm : m < 8) (b : Block7) : (bc7Row m b).wf = b.wf m := by
  interval_cases m <;> rfl

/-- A BC7 block decodes to a well-formed row that encodes to the block. -/
theorem encodeBlock_decodeBc7 (blk : Block) :
    (decodeBc7 blk).wf = true ∧ encodeBlock (decodeBc7 blk) = blk := by
  cases hmode : getMode7 blk with
  | some m =>
    obtain ⟨hm, -⟩ := getMode7_eq_some_iff.1 hmode
    rw [decodeBc7_of_mode hmode, bc7Row_wf hm, encodeBlock_bc7Row hm]
    exact ⟨unpack7_wf m blk, pack7_unpack7 hmode⟩
  | none =>
    have hlow : blk.toNat % 2 ^ 8 = 0 := getMode7_eq_none_iff.1 hmode
    have hlt := blk.isLt
    rw [decodeBc7_of_reserved hmode]
    refine ⟨rfl, BitVec.eq_of_toNat_eq ?_⟩
    simp only [encodeBlock, BitVec.toNat_ofNat]
    omega

/-! ### BC6H: the pieces of the header -/

/-- Numbers with no set bit in common add without a carry. -/
theorem add_eq_or_of_disjoint {a b : Nat} (h : ∀ j, a.testBit j = true → b.testBit j = false) : a + b = a ||| b := by
  obtain ⟨w, ha, hb⟩ : ∃ w, a + b < 2 ^ w ∧ a ||| b < 2 ^ w := by
    have hle : a ||| b < 2 ^ (a + b) := Nat.or_lt_two_pow
      ((Nat.le_add_right a b).trans_lt (Nat.lt_two_pow_self)) ((Nat.le_add_left b a).trans_lt (Nat.lt_two_pow_self))
    exact ⟨a + b, Nat.lt_two_pow_self, hle⟩
  have hand : BitVec.ofNat w a &&& BitVec.ofNat w b = 0#w := by
    ext j hj
    simpa [← BitVec.getLsbD_eq_getElem, BitVec.getLsbD_ofNat, hj] using h j
  have hadd := congrArg BitVec.toNat (BitVec.add_eq_or_of_and_eq_zero _ _ hand)
  simpa [← BitVec.ofNat_add, ← BitVec.ofNat_or, Nat.mod_eq_of_lt ha, Nat.mod_eq_of_lt hb] using hadd

/-- A field of a number depends on the bits it covers only. -/
theorem bitsOf_congr {x y lo n : Nat} (h : ∀ j ∈ List.range' lo n, x.testBit j = y.testBit j) :
    bitsOf x lo n = bitsOf y lo n := by
  refine Nat.eq_of_testBit_eq fun k => ?_
  simp only [bitsOf, Nat.testBit_mod_two_pow, Nat.testBit_div_two_pow]
  by_cases hk : k < n
  · rw [h (k + lo) (by simp; omega)]
  · simp [hk]

/-- A value put to the place of a piece that it fits has no bits elsewhere. -/
theorem testBit_piece {v lo n j : Nat} (hv : v < 2 ^ n) (h : (v * 2 ^ lo).testBit j = true) : j ∈ List.range' lo n := by
  rw [Nat.testBit_mul_two_pow, Bool.and_eq_true, decide_eq_true_eq] at h
  have hlt : j - lo < n := by
    by_contra hge
    rw [Nat.testBit_lt_two_pow (hv.trans_le (Nat.pow_le_pow_right (by decide) (not_lt.1 hge)))] at h
    exact absurd h.2 (by decide)
  simp
  omega

theorem bitsOf_piece {v lo n : Nat} (hv : v < 2 ^ n) : bitsOf (v * 2 ^ lo) lo n = v := by
  rw [bitsOf, Nat.mul_div_cancel _ (Nat.two_pow_pos lo), Nat.mod_eq_of_lt hv]

theorem layoutPlaces_cons (f : Field6) (g : Seg6) (gs : List Seg6) : layoutPlaces f (g :: gs) =
    (if g.f = f then List.range' g.lo g.width else []) ++ layoutPlaces f gs := by
  by_cases hf : g.f = f <;> simp [layoutPlaces, hf]

/-- The bits gathered for a field from one more piece: those of the piece, and those of the pieces after it. -/
theorem testBit_gatherField_cons {f : Field6} {g : Seg6} {gs : List Seg6} {v : Nat} {vs : List Nat}
    (hv : v < 2 ^ g.width) (hnodup : (layoutPlaces f (g :: gs)).Nodup)
    (htail : ∀ j, (gatherField f gs vs).testBit j = true → j ∈ layoutPlaces f gs) (j : Nat) :
    (gatherField f (g :: gs) (v :: vs)).testBit j =
      ((decide (g.f = f) && (v * 2 ^ g.lo).testBit j) || (gatherField f gs vs).testBit j) := by
  by_cases hf : g.f = f
  · rw [layoutPlaces_cons, if_pos hf] at hnodup
    have hdisjoint : ∀ j, (v * 2 ^ g.lo).testBit j = true → (gatherField f gs vs).testBit j = false := fun j hj =>
      Bool.eq_false_iff.2 fun hj' => List.disjoint_of_nodup_append hnodup (testBit_piece hv hj) (htail j hj')
    simp [gatherField, hf, add_eq_or_of_disjoint hdisjoint]
  · simp [gatherField, hf]

section

variable {gs : List Seg6} {vs : List Nat} (h : fitsWidths (gs.map Seg6.width) vs = true)
include h

/-- What is gathered for a field has bits at the field's places only. -/
theorem mem_layoutPlaces_of_testBit {f : Field6} (hnodup : (layoutPlaces f gs).Nodup) {j : Nat}
    (hj : (gatherField f gs vs).testBit j = true) : j ∈ layoutPlaces f gs := by
  induction gs generalizing vs j with
  | nil => simp [gatherField] at hj
  | cons g gs ih =>
    obtain ⟨v, vs, hv, hvs, rfl⟩ := exists_of_fitsWidths_cons h
    have hcons := layoutPlaces_cons f g gs
    rw [testBit_gatherField_cons hv hnodup fun j => ih hvs (List.nodup_append'.1 (hcons ▸ hnodup)).2.1] at hj
    rw [hcons, List.mem_append]
    rcases Bool.or_eq_true_iff.1 hj with hpiece | hrest
    · obtain ⟨hf, hbit⟩ : g.f = f ∧ (v * 2 ^ g.lo).testBit j = true := by simpa using hpiece
      exact .inl (by rw [if_pos hf]; exact testBit_piece hv hbit)
    · exact .inr (ih hvs (List.nodup_append'.1 (hcons ▸ hnodup)).2.1 hrest)

/-- Where no two pieces of a field overlap, cutting what was gathered into the pieces gives the pieces back
(30_encoding.md R135). -/
theorem map_bitsOf_gatherField (hnodup : ∀ f, (layoutPlaces f gs).Nodup) :
    (gs.map fun g => bitsOf (gatherField g.f gs vs) g.lo g.width) = vs := by
  induction gs generalizing vs with
  | nil =>
    cases vs with
    | nil => rfl
    | cons => cases h
  | cons g gs ih =>
    obtain ⟨v, vs, hv, hvs, rfl⟩ := exists_of_fitsWidths_cons h
    have hsplit (f : Field6) := List.nodup_append'.1 (layoutPlaces_cons f g gs ▸ hnodup f)
    have hplaces (f : Field6) (j : Nat) (hj : (gatherField f gs vs).testBit j = true) : j ∈ layoutPlaces f gs :=
      mem_layoutPlaces_of_testBit hvs (hsplit f).2.1 hj
    have hbits (f : Field6) := testBit_gatherField_cons hv (hnodup f) (hplaces f)
    rw [List.map_cons]
    congr 1
    · refine (bitsOf_congr fun j hj => ?_).trans (bitsOf_piece hv)
      have hdisjoint := (hsplit g.f).2.2
      rw [if_pos rfl] at hdisjoint
      have hrest : (gatherField g.f gs vs).testBit j = false :=
        Bool.eq_false_iff.2 fun hj' => hdisjoint hj (hplaces _ j hj')
      simp [hbits, hrest]
    · refine Eq.trans (List.map_congr_left fun g' hg' => bitsOf_congr fun j hj => ?_)
        (ih hvs fun f => (hsplit f).2.1)
      have hmem : j ∈ layoutPlaces g'.f gs :=
        List.mem_flatMap.2 ⟨g', List.mem_filter.2 ⟨hg', by simp⟩, hj⟩
      have hpiece : (decide (g.f = g'.f) && (v * 2 ^ g.lo).testBit j) = false := by
        by_contra hbit
        obtain ⟨hf, hbit⟩ : g.f = g'.f ∧ (v * 2 ^ g.lo).testBit j = true := by simpa using hbit
        have hdisjoint := (hsplit g'.f).2.2
        rw [if_pos hf] at hdisjoint
        exact hdisjoint (testBit_piece hv hbit) hmem
      rw [hbits, hpiece, Bool.false_or]

end

/-! ### BC6H: blocks -/

/-- The pieces of the header as they are read from a block. -/
def bc6hHeaderBits (m : Nat) (blk : Block) : List Nat := (readFields ((bc6hLayout m).map Seg6.width) blk.toNat).1

/-- A header field as it is gathered from a block. -/
def gather6 (m : Nat) (blk : Block) (f : Field6) : Nat := gatherField f (bc6hLayout m) (bc6hHeaderBits m blk)

theorem unpack6_shape (m : Nat) (blk : Block) : (unpack6 m blk).shape = gather6 m blk .d := rfl

theorem unpack6_ends (m : Nat) (blk : Block) :
    (unpack6 m blk).ends = (endFields.take ((bc6hMode m).ns * 6)).map (gather6 m blk) := rfl

section

variable {m : Nat} (hm : m ∈ bc6hModes) (blk : Block)
include hm

theorem layoutPlaces_nodup (f : Field6) : (layoutPlaces f (bc6hLayout m)).Nodup :=
  (layoutPlaces_perm hm f).nodup_iff.2 List.nodup_range

/-- A gathered field has the bits of its width. -/
theorem gather6_lt (f : Field6) : gather6 m blk f < 2 ^ bc6hHeaderWidth m f := by
  refine Nat.lt_pow_two_of_testBit _ fun j hj => Bool.eq_false_iff.2 fun hbit => ?_
  have hmem := mem_layoutPlaces_of_testBit (fitsWidths_readFields _ _) (layoutPlaces_nodup hm f) hbit
  have := List.mem_range.1 ((layoutPlaces_perm hm f).mem_iff.1 hmem)
  omega

/-- The mode field is gathered whole from the lowest bits. -/
theorem gather6_mode : gather6 m blk .m = blk.toNat % 2 ^ bc6hCodeWidth m := by
  have hlt : gather6 m blk .m < 2 ^ bc6hCodeWidth m := gather6_lt hm blk .m
  have hpieces := map_bitsOf_gatherField (fitsWidths_readFields ((bc6hLayout m).map Seg6.width) blk.toNat)
    (layoutPlaces_nodup hm)
  obtain ⟨gs, hgs⟩ := bc6hLayout_mode_first m hm
  have hfirst : bitsOf (gather6 m blk .m) 0 (bc6hCodeWidth m) = blk.toNat % 2 ^ bc6hCodeWidth m := by
    have hwidth : Seg6.width ⟨.m, bc6hCodeWidth m - 1, 0⟩ = bc6hCodeWidth m := by
      unfold Seg6.width bc6hCodeWidth; split <;> rfl
    rw [gather6, bc6hHeaderBits]
    rw [hgs] at hpieces ⊢
    simpa [readFields, hwidth] using congrArg (List.headD · 0) hpieces
  simpa [bitsOf, Nat.mod_eq_of_lt hlt] using hfirst

theorem unpack6_wf : (unpack6 m blk).wf m = true := by
  have hshapes : ∀ m ∈ bc6hModes, bc6hShapes m = 2 ^ bc6hHeaderWidth m .d := by decide
  have hwidths : ∀ m ∈ bc6hModes,
      bc6hEndWidths m = (endFields.take ((bc6hMode m).ns * 6)).map (bc6hHeaderWidth m) := by decide
  refine Block6.wf_iff.2 ⟨?_, ?_, fitsWidths_readFields _ _⟩
  · rw [hshapes m hm]
    exact gather6_lt hm blk .d
  · rw [hwidths m hm, unpack6_ends]
    exact fitsWidths_map fun f _ => gather6_lt hm blk f

/-- The header of the fields read from a block of mode `m` holds what was gathered. -/
theorem headerValue_unpack6 (hmode : getMode6 blk = some m) {g : Seg6} (hg : g ∈ bc6hLayout m) :
    headerValue m (unpack6 m blk) g.f = gather6 m blk g.f := by
  have hfields : ∀ m ∈ bc6hModes, ∀ g ∈ bc6hLayout m,
      g.f = .m ∨ g.f = .d ∨ g.f ≠ .m ∧ g.f ≠ .d ∧ g.f ∈ endFields.take ((bc6hMode m).ns * 6) := by decide +kernel
  rcases hfields m hm g hg with hf | hf | ⟨hnotm, hnotd, hend⟩
  · rw [hf, gather6_mode hm, (getMode6_eq_some_iff hm).1 hmode]
    rfl
  · rw [hf]
    rfl
  · have hlt := List.idxOf_lt_length_of_mem hend
    have hidx : endFields.idxOf g.f = (endFields.take ((bc6hMode m).ns * 6)).idxOf g.f := by
      conv_lhs => rw [← List.take_append_drop ((bc6hMode m).ns * 6) endFields]
      exact List.idxOf_append_of_mem hend
    rw [headerValue, if_neg hnotm, if_neg hnotd, unpack6_ends, hidx, List.getD_eq_getElem _ _ (by simpa using hlt),
      List.getElem_map, List.getElem_idxOf]

/-- The fields that were read pack to the block. -/
theorem pack6_unpack6 (hmode : getMode6 blk = some m) : pack6 m (unpack6 m blk) = blk := by
  have hheader : ((bc6hHeader m (unpack6 m blk)).map fun f => f.2 % 2 ^ f.1) = bc6hHeaderBits m blk := by
    rw [map_mod_bc6hHeader]
    refine Eq.trans (List.map_congr_left fun g hg => ?_)
      (map_bitsOf_gatherField (fitsWidths_readFields _ blk.toNat) (layoutPlaces_nodup hm))
    rw [headerValue_unpack6 hm blk hmode hg]
    rfl
  have hwf := unpack6_wf hm blk
  obtain ⟨hshape, -⟩ := Block6.wf_iff.1 hwf
  apply BitVec.eq_of_toNat_eq
  rw [toNat_pack6 hm hwf, packFields_append_eq_zip, hheader, map_fst_bc6hHeader]
  refine packFields_zip_readFields (packFields_zip_readFields_last ?_)
  simp only [readFields_snd, Nat.div_div_eq_div_mul, ← pow_add]
  exact block_div_eq_zero blk (bc6h_widths_sum m hm _ hshape)

theorem encodeBlock_bc6hRow (b : Block6) : encodeBlock (bc6hRow m b) = pack6 m b := by
  obtain ⟨hlo, hhi⟩ := mem_bc6hModes.1 hm
  interval_cases m <;> rfl

theorem bc6hRow_wf (b : Block6) : (bc6hRow m b).wf = b.wf m := by
  obtain ⟨hlo, hhi⟩ := mem_bc6hModes.1 hm
  interval_cases m <;> rfl

end

/-- Every mode field is that of a mode or reserved (30_encoding.md R132, R137). -/
theorem getMode6_cases (blk : Block) : (∃ m ∈ bc6hModes, getMode6 blk = some m) ∨
    getMode6 blk = none ∧ blk.toNat % 2 ^ 5 ∈ [0x13, 0x17, 0x1B, 0x1F] := by
  have htable : ∀ c < 2 ^ 5, (∃ m ∈ bc6hModes, getMode6 (BitVec.ofNat 128 c) = some m) ∨
      getMode6 (BitVec.ofNat 128 c) = none ∧ c ∈ [0x13, 0x17, 0x1B, 0x1F] := by decide +kernel
  rw [getMode6_eq_low]
  exact htable _ (Nat.mod_lt _ (by decide))

theorem encodeBlock_bc6hReservedRow {c : Nat} (hc : c ∈ [0x13, 0x17, 0x1B, 0x1F]) (rest : BitVec 123) :
    (bc6hReservedRow c rest).wf = true ∧
      encodeBlock (bc6hReservedRow c rest) = BitVec.ofNat 128 (rest.toNat * 2 ^ 5 + c) := by
  simp only [List.mem_cons, List.not_mem_nil, or_false] at hc
  obtain rfl | rfl | rfl | rfl := hc <;> exact ⟨rfl, rfl⟩

/-- A BC6H block decodes to a well-formed row that encodes to the block. -/
theorem encodeBlock_decodeBc6h (blk : Block) :
    (decodeBc6h blk).wf = true ∧ encodeBlock (decodeBc6h blk) = blk := by
  obtain ⟨m, hm, hmode⟩ | ⟨hmode, hcode⟩ := getMode6_cases blk
  · rw [decodeBc6h_of_mode hm hmode, bc6hRow_wf hm, encodeBlock_bc6hRow hm]
    exact ⟨unpack6_wf hm blk, pack6_unpack6 hm blk hmode⟩
  · obtain ⟨hwf, hencode⟩ := encodeBlock_bc6hReservedRow hcode (BitVec.ofNat 123 (blk.toNat / 2 ^ 5))
    have hlt := blk.isLt
    rw [decodeBc6h_of_reserved hmode, hencode]
    refine ⟨hwf, BitVec.eq_of_toNat_eq ?_⟩
    simp only [BitVec.toNat_ofNat]
    omega

/-- Settles O45: in either format the fields of a mode tile the block, and a reserved block keeps its other bits. -/
theorem encodeOfDecode : Obligations.EncodeOfDecode := by
  intro fmt blk
  cases fmt with
  | bc7 => exact encodeBlock_decodeBc7 blk
  | bc6h => exact encodeBlock_decodeBc6h blk

end Sys2Proof.Machine

/-! SUPPORT. What resets write (70_reset_and_hazards.md R450 to R452). -/

namespace Sys2Proof.Machine

/-- Settles O4: the reset value of each register, field by field. -/
theorem sresetRestoresRegisters : Obligations.SresetRestoresRegisters :=
  fun s => ⟨_, execSreset_eq s, rfl⟩

/-- Settles O46: an asserted reset input comes before everything else of a step. -/
theorem hardResetState : Obligations.HardResetState := by
  intro s rs hin
  have hreset : s.resetAsserted = true := by rw [State.resetAsserted, hin]; rfl
  have htail : s.pastReset.hardReset.resetIn = rs := by simp [hin]
  have hslots : ∀ i : Fin 16,
      RwRegs.reset.imp[i] = 1 ∧ RwRegs.reset.wrLo[i] = false ∧ RwRegs.reset.wrHi[i] = false := by decide
  exact ⟨_, step_reset hreset, rfl, rfl, rfl, rfl, rfl, rfl, rfl, rfl, rfl, rfl, rfl, rfl, rfl, rfl, rfl, rfl,
    hslots, rfl, rfl, rfl, htail, rfl, rfl, rfl⟩

/-- The parameters of this hardware are legal (00_scope.md R7). -/
theorem Config.hardware_legal : Config.hardware.Legal where
  orderBc7 := by decide
  orderBc6h := List.Perm.refl _
  iters := by decide
  boost := by decide
  base := by decide

/-- Settles O47: an idle machine all of whose registers have their reset value. -/
theorem resetHasInvariant : Obligations.ResetHasInvariant :=
  State.inv_of_idle Config.hardware_legal RwRegs.clean_reset statusSound_zero
    (State.resultSound_zero rfl rfl rfl rfl) rfl statusBusy_zero

end Sys2Proof.Machine

/-! SUPPORT. What block rows do (48_packer_bc7.md R370, R372, 49_packer_bc6h.md R396, log 7). -/

namespace Sys2Proof.Machine

/-- Settles O40: each row of BC7 answers the tile of its own mode. -/
theorem bc7RowsDecode : Obligations.Bc7RowsDecode :=
  fun _ _ _ => ⟨rfl, rfl, rfl, rfl, rfl, rfl, rfl, rfl, rfl⟩

/-- Settles O41: each row of BC6H answers the tile of its own mode under CFG.NUMFMT. -/
theorem bc6hRowsDecode : Obligations.Bc6hRowsDecode :=
  fun _ _ _ => ⟨rfl, rfl, rfl, rfl, rfl, rfl, rfl, rfl, rfl, rfl, rfl, rfl, rfl, rfl, rfl, rfl, rfl, rfl⟩

/-- A block row always answers, and changes the reference decoder's answer only. -/
theorem exec_blockRow {i : Instr} (h : i.encoding ≠ .cmd) (s : State) : ∃ o, exec i s = .next (s.answer o) := by
  cases i with
  | nop | encode | getmode | sreset | h2w | w2h | quant6 | unquant6 | finish6 | quant7 | expand7 | weight | lerp
  | shape | anchor | delta6 | reservedCmd => exact absurd rfl h
  | _ => exact ⟨_, rfl⟩

theorem encoding_decodeBc7 (blk : Block) : (decodeBc7 blk).encoding = .bc7 := by
  unfold decodeBc7
  split <;> rfl

theorem encoding_decodeBc6h (blk : Block) : (decodeBc6h blk).encoding = .bc6h := by
  unfold decodeBc6h
  split
  case h_15 => dsimp only; split_ifs <;> rfl
  all_goals rfl

/-- A block decodes to a block row, whatever its bits. -/
theorem encoding_decodeBlock_ne_cmd (fmt : Format) (blk : Block) : (decodeBlock fmt blk).encoding ≠ .cmd := by
  cases fmt with
  | bc7 => exact fun h => nomatch (encoding_decodeBc7 blk).symm.trans h
  | bc6h => exact fun h => nomatch (encoding_decodeBc6h blk).symm.trans h

end Sys2Proof.Machine

/-! SUPPORT. A running command against the host and the tile (70_reset_and_hazards.md R460 to R464, R470): its inputs
and the result registers stay until its completion step, and no step but the hardware reset clears a written mark. -/

namespace Sys2Proof.Machine

/-- A POLL is a bus read that may stay in the host's list. -/
theorem State.pollOnce_eq (s : State) (addr : Nat) : s.pollOnce addr =
    { s.busRead (addr - s.params.coreBase) with host := (s.pollOnce addr).host } := by
  unfold State.pollOnce
  dsimp only
  split <;> rfl

/-! ### Writes while a command runs (70_reset_and_hazards.md R460) -/

theorem busWrite_busy {s : State} {r : Running} (hbusy : s.seq = .busy r) (off : Nat) (v : Word) :
    s.busWrite off v = s.writeBusy := by
  simp [State.busWrite, hbusy]

theorem step_write_busy {s : State} {r : Running} {off : Nat} {v : Word} {es : List HostEvent}
    (hbusy : s.seq = .busy r) (hleft : r.left ≠ 0) (halign : off % 4 = 0) (hlt : off < 0x200)
    (hreset : s.resetAsserted = false) (hhost : s.host = .write (s.params.coreBase + off) 4 v :: es) :
    step s = .next (s.taken es).tick.writeBusy := by
  have hrunning : ∀ r', s.seq = .busy r' → r'.left ≠ 0 := fun r' hr => by
    cases hbusy.symm.trans hr; exact hleft
  rw [step_host hhost (accessStop_offset halign hlt) hreset hrunning]
  exact congrArg _ (busWrite_busy ((s.taken es).tick_busy hbusy) _ v)

/-- Settles O52: the step is one step of time and STATUS with WIGN set. -/
theorem writesWhileBusyIgnored : Obligations.WritesWhileBusyIgnored := by
  intro s r off v es hbusy hleft halign hlt hreset hhost
  have htick : (s.taken es).tick = { s.taken es with seq := .busy { r with left := r.left - 1 } } :=
    State.tick_of_busy hbusy
  refine ⟨_, step_write_busy hbusy hleft halign hlt hreset hhost, ?_⟩
  rw [htick]
  exact ⟨rfl, statusWign_ignoredWrite _, statusBusy_ignoredWrite _, statusDone_ignoredWrite _,
    statusErr_ignoredWrite _, statusErrCode_ignoredWrite _, statusFallback_ignoredWrite _⟩

/-! ### The tile (70_reset_and_hazards.md R452, R463, R464) -/

/-- From `s` to `t` no PIX word lost its written mark. -/
def State.MarksKept (s t : State) : Prop := ∀ g, s.unwritten g = false → t.unwritten g = false

theorem State.marksKept_of_eq {s t : State} (hlo : t.rw.wrLo = s.rw.wrLo) (hhi : t.rw.wrHi = s.rw.wrHi) :
    s.MarksKept t := by
  intro g hg
  cases g with
  | pixLo i => simpa [State.unwritten, hlo] using hg
  | pixHi i => simpa [State.unwritten, hhi] using hg
  | _ => rfl

theorem State.MarksKept.slot {s t : State} (h : s.MarksKept t) (i : Fin 16) :
    (s.rw.wrLo[i] = true → t.rw.wrLo[i] = true) ∧ (s.rw.wrHi[i] = true → t.rw.wrHi[i] = true) := by
  have hlo := h (.pixLo i)
  have hhi := h (.pixHi i)
  simp only [State.unwritten, Bool.not_eq_false'] at hlo hhi
  exact ⟨hlo, hhi⟩

/-- No end of an instruction but that of SRESET writes a writable register, and SRESET leaves the tile. -/
theorem ExecEnds.rw_kept {i : Instr} {s t : State} (h : ExecEnds s i t) : (i ≠ .sreset → t.rw = s.rw) ∧
    t.rw.pixLo = s.rw.pixLo ∧ t.rw.pixHi = s.rw.pixHi ∧ t.rw.wrLo = s.rw.wrLo ∧ t.rw.wrHi = s.rw.wrHi := by
  cases h with
  | softReset => exact ⟨fun hne => absurd rfl hne, rfl, rfl, rfl, rfl⟩
  | completed | raised | reservedMode | result | committed | answered => exact ⟨fun _ => rfl, rfl, rfl, rfl, rfl⟩

theorem marksKept_exec {i : Instr} {s t : State} (h : exec i s = .next t) : s.MarksKept t := by
  obtain ⟨-, -, -, hlo, hhi⟩ := (exec_ends h).rw_kept
  exact State.marksKept_of_eq hlo hhi

theorem marksKept_busWrite (s : State) (off : Nat) (v : Word) : s.MarksKept (s.busWrite off v) := by
  obtain ⟨r, -, hw⟩ | ⟨-, -, hw⟩ | ⟨-, g, -, -, hw⟩ | ⟨-, -, hw⟩ := busWrite_cases s off v <;> rw [hw]
  · exact State.marksKept_of_eq rfl rfl
  · exact State.marksKept_of_eq rfl rfl
  · exact fun _ => State.unwritten_store g v
  · exact State.marksKept_of_eq rfl rfl

theorem marksKept_hostStep {s s' t : State} {e : HostEvent} (h : hostStep e s' = .next t) (hrw : s'.rw = s.rw) :
    s.MarksKept t := by
  have hstart : s.MarksKept s' := State.marksKept_of_eq (congrArg _ hrw) (congrArg _ hrw)
  refine fun g hg => ?_
  have hg' := hstart g hg
  cases e with
  | write addr bytes v => cases h; exact marksKept_busWrite s' _ v g hg'
  | read addr bytes => cases h; exact State.marksKept_of_eq (s := s') rfl rfl g hg'
  | poll addr =>
    cases h
    have hpoll : (s'.pollOnce addr).rw = s'.rw := by rw [s'.pollOnce_eq addr]; rfl
    exact State.marksKept_of_eq (congrArg _ hpoll) (congrArg _ hpoll) g hg'
  | refDecode fmt blk => exact marksKept_exec h g hg'

/-- A step that is not the hardware reset keeps the written marks. -/
theorem marksKept_step {s t : State} (hreset : s.resetAsserted = false) (h : step s = .next t) : s.MarksKept t := by
  obtain ⟨hyes, -⟩ | ⟨r, -, -, hs⟩ | ⟨-, -, hs⟩ := step_cases s
  · cases hreset.symm.trans hyes
  · rw [hs] at h
    obtain ⟨-, hb⟩ | ⟨-, hb⟩ | ⟨e, es, -, -, -, hb⟩ := busyStep_cases r s.pastReset <;> rw [hb] at h
    · exact marksKept_exec (s := s.pastReset) h
    · cases h
      exact State.marksKept_of_eq (congrArg _ s.pastReset.tick_rw) (congrArg _ s.pastReset.tick_rw)
    · exact marksKept_hostStep h s.pastReset.tick_rw
  · rw [hs] at h
    obtain ⟨-, hi⟩ | ⟨_, _, _, -, -, -, hi⟩ | ⟨_, _, _, -, -, -, hi⟩ | ⟨e, es, -, -, hi⟩ :=
      idleStep_cases s.pastReset <;> rw [hi] at h
    · cases h; exact State.marksKept_of_eq rfl rfl
    · cases h; exact State.marksKept_of_eq rfl rfl
    · cases h
    · exact marksKept_hostStep h rfl

/-- Settles O58: the ends of the instructions, and the steps one by one. -/
theorem tileSurvivesEveryCommand : Obligations.TileSurvivesEveryCommand :=
  ⟨fun _ _ _ h => (exec_ends h).rw_kept, fun _ _ h hreset => (marksKept_step hreset h).slot⟩

/-! ### The wait for the completion step (70_reset_and_hazards.md R461, R470) -/

/-- The registers that nothing writes while a command runs: a state with all else erased (STATUS takes WIGN). -/
def State.held (s : State) : State :=
  { s with status := 0, seq := .idle, host := [], resetIn := [], reads := [], refOut := .none, draws := 0 }

/-- What the host does while a command runs: the registers are held and the command stays as it is. -/
theorem hostStep_busy {s : State} {r : Running} (hbusy : s.seq = .busy r) (e : HostEvent) :
    ∃ t, hostStep e s = .next t ∧ t.seq = .busy r ∧ t.resetIn = s.resetIn ∧ t.held = s.held := by
  cases e with
  | write addr bytes v =>
    have hw := busWrite_busy hbusy (addr - s.params.coreBase) v
    exact ⟨s.writeBusy, congrArg Host.Outcome.next hw, hbusy, rfl, rfl⟩
  | read addr bytes => exact ⟨_, rfl, hbusy, rfl, rfl⟩
  | poll addr =>
    refine ⟨s.pollOnce addr, rfl, ?_⟩
    rw [s.pollOnce_eq addr]
    exact ⟨hbusy, rfl, rfl⟩
  | refDecode fmt blk =>
    obtain ⟨o, ho⟩ := exec_blockRow (encoding_decodeBlock_ne_cmd fmt blk) s
    exact ⟨_, ho, hbusy, rfl, rfl⟩

/-- One step of the wait. -/
theorem step_waiting {s : State} {r : Running} (hbusy : s.seq = .busy r) (hleft : r.left ≠ 0)
    (hreset : s.resetAsserted = false) : ∃ t, step s = .next t ∧ t.seq = .busy { r with left := r.left - 1 } ∧
      t.resetIn = s.resetIn.tail ∧ t.held = s.held := by
  have htick : s.pastReset.tick = { s.pastReset with seq := .busy { r with left := r.left - 1 } } :=
    State.tick_of_busy hbusy
  have hstep : step s = busyStep r s.pastReset := by simp [step_run hreset, runStep, hbusy]
  rw [hstep]
  obtain ⟨hzero, -⟩ | ⟨-, hb⟩ | ⟨e, es, -, -, -, hb⟩ := busyStep_cases r s.pastReset
  · exact absurd hzero hleft
  · rw [hb, htick]
    exact ⟨_, rfl, rfl, rfl, rfl⟩
  · rw [hb, htick]
    exact hostStep_busy rfl e

theorem run_succ_of_next (M : Host.Core) {s t : M.State} (h : M.step s = .next t) (n : Nat) :
    M.run (n + 1) s = M.run n t := by
  rw [Host.Core.run, h]

theorem State.resetAsserted_of_not_mem {s : State} (h : true ∉ s.resetIn) : s.resetAsserted = false := by
  unfold State.resetAsserted
  cases hr : s.resetIn with
  | nil => rfl
  | cons b bs =>
    rw [hr] at h
    cases b with
    | false => rfl
    | true => exact absurd (List.mem_cons_self ..) h

/-- The wait as a whole, by induction on its length. -/
theorem run_wait {s : State} {r : Running} (hbusy : s.seq = .busy r) (hno : true ∉ s.resetIn) :
    ∃ t, Host.Core.run Sys2Proof.core r.left s = .next t ∧ t.seq = .busy { r with left := 0 } ∧
      true ∉ t.resetIn ∧ t.held = s.held := by
  obtain ⟨n, hn⟩ : ∃ n, n = r.left := ⟨_, rfl⟩
  induction n generalizing s r with
  | zero =>
    have hdue : r = { r with left := 0 } := by rw [hn]
    exact ⟨s, by rw [← hn]; rfl, hbusy.trans (congrArg _ hdue), hno, rfl⟩
  | succ n ih =>
    obtain ⟨u, hstep, hseq, hin, hheld⟩ :=
      step_waiting hbusy (by omega) (State.resetAsserted_of_not_mem hno)
    obtain ⟨t, hrun, hseq', hno', hheld'⟩ :=
      ih hseq (hin ▸ fun hmem => hno (List.mem_of_mem_tail hmem)) (by simp; omega)
    refine ⟨t, ?_, hseq', hno', hheld'.trans hheld⟩
    rw [← hn]
    refine (run_succ_of_next Sys2Proof.core hstep n).trans ?_
    simpa [← hn] using hrun

/-- Settles O60: the wait ends at the completion step, with the registers held. -/
theorem commandCompletesInBoundedSteps : Obligations.CommandCompletesInBoundedSteps := by
  intro s r hbusy hno
  obtain ⟨t, hrun, hseq, hno', hheld⟩ := run_wait hbusy hno
  have hfield {α : Type} (f : State → α) (hf : ∀ s : State, f s = f s.held) : f t = f s := by
    rw [hf t, hheld, ← hf s]
  refine ⟨t, hrun, hseq, hfield State.cmd fun _ => rfl, hfield State.rw fun _ => rfl, hfield State.res fun _ => rfl,
    hfield State.rinfo fun _ => rfl, hfield State.rerrLo fun _ => rfl, hfield State.rerrHi fun _ => rfl,
    hfield State.out fun _ => rfl, hfield State.params fun _ => rfl, ?_⟩
  exact step_completion (r := { r with left := 0 }) hseq rfl (State.resetAsserted_of_not_mem hno')

end Sys2Proof.Machine

/-! SUPPORT. GETMODE (48_packer_bc7.md R371, 49_packer_bc6h.md R395): its two ends, and that it reads the low bits of
BIN0 only. -/

namespace Sys2Proof.Machine

/-- The low word of a block is the first of its words (10_state.md R42). -/
theorem toNat_blockOfWords_mod (v : Vector Word 4) {k : Nat} (hk : k ≤ 32) :
    (blockOfWords v).toNat % 2 ^ k = v[0].toNat % 2 ^ k := by
  have hlow : (blockOfWords v).toNat % 2 ^ 32 = v[0].toNat % 2 ^ 32 := by
    simp only [blockOfWords, packFields, BitVec.toNat_ofNat]
    omega
  rw [← Nat.mod_mod_of_dvd _ (Nat.pow_dvd_pow 2 hk), hlow, Nat.mod_mod_of_dvd _ (Nat.pow_dvd_pow 2 hk)]

section

variable {s : State} {fmt : Format} (hfmt : cfgFormat s.inputs.cfg = fmt)
include hfmt

theorem exec_getmode_of_mode {m : Nat} (hmode : blockMode fmt (blockOfWords s.inputs.bin) = some m) :
    ∃ t, exec .getmode s = .next t ∧ OnlyResChanged s t ∧ t.res = BitVec.ofNat 32 m := by
  have hexec : exec .getmode s = .next (s.completeRes (wordOf m)) := by
    show execGetmode s = _
    rw [execGetmode, hfmt, hmode]
  exact ⟨_, hexec, onlyResChanged_completeRes s _, s.completeRes_res _⟩

theorem exec_getmode_of_reserved (hmode : blockMode fmt (blockOfWords s.inputs.bin) = none) :
    ∃ t, exec .getmode s = .next t ∧ t = { s with res := 0xFFFFFFFF, status := t.status, seq := .idle } ∧
      CompletedErr s.status t.status .rsvdMode := by
  have hexec : exec .getmode s = .next s.raiseReservedMode := by
    show execGetmode s = _
    rw [execGetmode, hfmt, hmode]
    rfl
  exact ⟨_, hexec, rfl, completedErr_statusError _ _⟩

end

/-- Settles O5: the low byte of BIN0 holds the unary code of the mode. -/
theorem getmodeReadsBc7Mode : Obligations.GetmodeReadsBc7Mode := by
  intro s hfmt
  refine ⟨fun m hm hcode => exec_getmode_of_mode hfmt ?_, fun hzero => exec_getmode_of_reserved hfmt ?_⟩
  · refine getMode7_eq_some_iff.2 ⟨hm, ?_⟩
    rw [toNat_blockOfWords_mod _ (by omega), hcode]
  · refine getMode7_eq_none_iff.2 ?_
    rw [toNat_blockOfWords_mod _ (by omega)]
    exact hzero

/-- GETMODE under BC6H of a block whose mode field is the code of mode `m`. -/
theorem exec_getmode_of_code {s : State} (hfmt : cfgFormat s.inputs.cfg = .bc6h) {m : Nat} (hm : m ∈ bc6hModes)
    (hcode : s.inputs.bin[0].toNat % 2 ^ bc6hCodeWidth m = (bc6hMode m).code) :
    ∃ t, exec .getmode s = .next t ∧ OnlyResChanged s t ∧ t.res = BitVec.ofNat 32 m := by
  refine exec_getmode_of_mode hfmt ((getMode6_eq_some_iff hm).2 ?_)
  rw [toNat_blockOfWords_mod _ ((bc6hCodeWidth_le m).trans (by decide)), hcode]

/-- Settles O6: the low five bits of BIN0 hold the mode field. -/
theorem getmodeReadsBc6hMode : Obligations.GetmodeReadsBc6hMode := by
  have hshort : ∀ mc ∈ [(1, 0), (2, 1)],
      mc.1 ∈ bc6hModes ∧ bc6hCodeWidth mc.1 = 2 ∧ (bc6hMode mc.1).code = mc.2 := by decide
  have hlong : ∀ mc ∈ [(3, 0x02), (4, 0x06), (5, 0x0A), (6, 0x0E), (7, 0x12), (8, 0x16), (9, 0x1A), (10, 0x1E),
      (11, 0x03), (12, 0x07), (13, 0x0B), (14, 0x0F)],
      mc.1 ∈ bc6hModes ∧ bc6hCodeWidth mc.1 = 5 ∧ (bc6hMode mc.1).code = mc.2 := by decide
  intro s hfmt
  refine ⟨fun m c hmc hc => ?_, fun m c hmc hc => ?_, fun hreserved => exec_getmode_of_reserved hfmt ?_⟩
  · obtain ⟨hm, hwidth, hcode⟩ := hshort _ hmc
    exact exec_getmode_of_code hfmt hm (by rw [hwidth, hcode]; exact hc)
  · obtain ⟨hm, hwidth, hcode⟩ := hlong _ hmc
    exact exec_getmode_of_code hfmt hm (by rw [hwidth, hcode]; exact hc)
  · refine getMode6_reserved ?_
    rw [toNat_blockOfWords_mod _ (by omega)]
    exact hreserved

end Sys2Proof.Machine

/-! SUPPORT. The layouts of the blocks (48_packer_bc7.md R363, 49_packer_bc6h.md R390, R392), checked table by table. -/

namespace Sys2Proof.Machine

/-- The length of a header is the one its row of the mode table names (49_packer_bc6h.md R390). -/
theorem bc6hLayout_width : ∀ m ∈ bc6hModes, ((bc6hLayout m).map Seg6.width).sum = (bc6hMode m).headerLen := by
  decide

/-- The header fields a mode has, with their widths (49_packer_bc6h.md R391). -/
def bc6hHeaderFields (m : Nat) : List (Field6 × Nat) :=
  [(Field6.m, if m ≤ 2 then 2 else 5), (Field6.d, if m ≤ 10 then 5 else 0)] ++
    (endFields.take ((bc6hMode m).ns * 6)).zip (bc6hEndWidths m)

/-- Each bit of each header field stands in one piece of the layout (49_packer_bc6h.md R392). -/
theorem bc6hLayout_places_once : ∀ m ∈ bc6hModes, ∀ fw ∈ bc6hHeaderFields m, ∀ j < fw.2,
    ((bc6hLayout m).filter fun g => g.f == fw.1 && decide (g.lo ≤ j ∧ j ≤ g.hi)).length = 1 := by
  decide +kernel

/-- Settles O39: the sums and places of the tables. -/
theorem blockLayoutsFill128 : Obligations.BlockLayoutsFill128 := by
  refine ⟨fun m s hm hs => bc7_widths_sum m hm s hs, fun m hlo hhi => ?_⟩
  have hm : m ∈ bc6hModes := mem_bc6hModes.2 ⟨hlo, Nat.lt_succ_of_le hhi⟩
  refine ⟨bc6hLayout_width m hm, fun s hs => ?_, fun f w hfw => bc6hLayout_places_once m hm (f, w) hfw⟩
  rw [← bc6hLayout_width m hm]
  exact bc6h_widths_sum m hm s hs

end Sys2Proof.Machine

/-! SUPPORT. The range of what the reference decoders answer (48_packer_bc7.md R370, 49_packer_bc6h.md R397). -/

namespace Sys2Proof.Machine

/-! ### BC7 -/

/-- The entries of a rotated list are those of the list, or the default where it is too short. -/
theorem forall_mem_rotate {α : Type} [Inhabited α] {P : α → Prop} {v : List α} (hv : ∀ x ∈ v, P x) (hd : P default)
    (rot : Nat) : ∀ x ∈ rotate v rot, P x := by
  have hget (k : Nat) : P (v.getD k default) := by
    rcases Nat.lt_or_ge k v.length with hlt | hge
    · rw [List.getD_eq_getElem _ _ hlt]
      exact hv _ (List.getElem_mem hlt)
    · rwa [List.getD_eq_default _ _ hge]
  intro x hx
  unfold rotate at hx
  split at hx
  · exact hv x hx
  · rcases List.mem_or_eq_of_mem_set hx with hx | rfl
    · rcases List.mem_or_eq_of_mem_set hx with hx | rfl
      · exact hv x hx
      · exact hget 3
    · exact hget (rot - 1)

/-- A value of a group of fields of one width. -/
theorem getD_lt_of_fitsWidths_replicate {n w : Nat} {vs : List Nat} (h : fitsWidths (List.replicate n w) vs = true)
    (k : Nat) : vs.getD k 0 < 2 ^ w := by
  refine (getD_lt_of_fitsWidths h k).trans_le (Nat.pow_le_pow_right (by decide) ?_)
  rcases Nat.lt_or_ge k n with hlt | hge
  · rw [List.getD_eq_getElem _ _ (by simpa using hlt), List.getElem_replicate]
  · rw [List.getD_eq_default _ _ (by simpa using hge)]
    exact Nat.zero_le w

section

variable {m : Nat} {b : Block7} (hm : m < 8) (h : b.wf m = true)
include h

/-- A p-bit is a bit. -/
theorem pbitAt7_lt (k e : Nat) : pbitAt7 m b k e < 2 := by
  obtain ⟨-, -, -, hpbits, -⟩ := Block7.wf_iff.1 h
  unfold pbitAt7
  split
  · exact getD_lt_of_fitsWidths_replicate hpbits _
  · exact getD_lt_of_fitsWidths_replicate hpbits _

include hm

/-- The decoder reconstructs bytes (45_palette.md R282). -/
theorem endpoint7_range (k e ch : Nat) : endpoint7 m b k e ch ∈ Set.Icc 0 255 := by
  obtain ⟨-, hcodes, halphas, -⟩ := Block7.wf_iff.1 h
  obtain ⟨hwidth, hawidth⟩ := bc7Mode_widths m hm
  have hcode : codeAt7 m b k e ch < 2 ^ (bc7Mode m).cb := getD_lt_of_fitsWidths_replicate hcodes _
  have hP := pbitAt7_lt h k e
  have hpow : 2 ^ ((bc7Mode m).cb + 1) = 2 * 2 ^ (bc7Mode m).cb := pow_succ' 2 _
  rw [Set.mem_Icc]
  unfold endpoint7
  dsimp only
  split_ifs with hch hpb hsep
  · rw [if_pos hpb] at hwidth
    have := expand_lt (x := 2 * codeAt7 m b k e ch + pbitAt7 m b k e) hwidth.1 hwidth.2 (by omega)
    rw [recon_eq _ _ hP]
    omega
  · rw [if_neg hpb] at hwidth
    have := expand_lt hwidth.1 hwidth.2 hcode
    omega
  · obtain ⟨hlo, hhi⟩ := hawidth hsep
    have halpha : fitsWidths (List.replicate 2 (bc7Mode m).ab) b.alphas = true := by
      simpa [bc7AlphaWidths, hsep] using halphas
    have := expand_lt hlo hhi (getD_lt_of_fitsWidths_replicate halpha e)
    omega
  · omega

/-- Interpolation stays between the endpoints (45_palette.md R281). -/
theorem channel7_range (i ch : Nat) : channel7 m b i ch ∈ Set.Icc 0 255 :=
  lerp_mem_Icc (weight_le_max _ _) (endpoint7_range hm h _ _ _) (endpoint7_range hm h _ _ _)

end

/-- Only the modes with separate alpha have a rotation (48_packer_bc7.md R360). -/
theorem rot_eq_zero_of_opaque {m : Nat} {b : Block7} (hm : m ≤ 3) (h : b.wf m = true) : b.rot = 0 := by
  obtain ⟨hhead, -⟩ := Block7.wf_iff.1 h
  have hwidth : ∀ m ≤ 3, (bc7Mode m).rb = 0 := by decide
  have hrot : b.rot < 2 ^ (bc7Mode m).rb := getD_lt_of_fitsWidths hhead 1
  rw [hwidth m hm] at hrot
  omega

/-- Modes 0 to 3 have no alpha of their own (48_packer_bc7.md R360). -/
theorem bc7_opaque_modes : ∀ m ≤ 3, bc7SeparateAlpha m = false ∧ bc7FourChannels m = false := by decide

/-- Settles O42: each channel lies between two reconstructed bytes, and the rotation only permutes the channels. -/
theorem decodedBc7PixelsAre8Bit : Obligations.DecodedBc7PixelsAre8Bit := by
  intro m b hm h
  refine ⟨by simp [decode7, pixels], fun px hpx => ?_⟩
  obtain ⟨i, -, rfl⟩ := List.mem_map.1 hpx
  rw [pixel7_eq]
  refine ⟨by simp [length_rotate], forall_mem_rotate (P := (· ≤ 255)) (fun v hv => ?_) (Nat.zero_le 255) _,
    fun hopaque => ?_⟩
  · obtain ⟨ch, -, rfl⟩ := List.mem_map.1 hv
    have := (channel7_range hm h i ch).2
    omega
  · obtain ⟨hsep, hfour⟩ := bc7_opaque_modes m hopaque
    rw [rot_eq_zero_of_opaque hopaque h, rotate, if_pos rfl, getD_map_range _ (by decide),
      channel7_opaque hsep hfour]
    rfl

/-! ### BC6H -/

theorem w2hValue_unsigned_le (v : Int) : w2hValue false v ≤ 0x7BFF := by
  have hval : w2hValue false v = min v.toNat 31743 := w2hU_eq v
  omega

/-- Settles O43: every channel of a pixel is a pattern W2H answers (40_half_float.md R163). -/
theorem decodedBc6hPixelsAreFinite : Obligations.DecodedBc6hPixelsAreFinite := by
  intro signed m b
  refine ⟨by simp [decode6, pixels], fun px hpx => ?_⟩
  obtain ⟨i, -, rfl⟩ := List.mem_map.1 hpx
  refine ⟨by simp [pixel6], fun h hh => ?_⟩
  obtain ⟨ch, -, rfl⟩ := List.mem_map.1 hh
  obtain ⟨hmag, hnegzero, hlt⟩ := w2hValue_finite signed _
  refine ⟨hlt, hmag, hnegzero, fun hunsigned => ?_⟩
  subst hunsigned
  exact w2hValue_unsigned_le _

end Sys2Proof.Machine

/-! SUPPORT. The checks of ENCODE (60_exceptions.md R421, R427, 47_mode_selector.md R331): in what order they fail, and
when an ENCODE that passes them faults. -/

namespace Sys2Proof.Machine

/-! ### The legality of FORCE (47_mode_selector.md R331) -/

theorem bc7SeparateAlpha_iff {m : Nat} : bc7SeparateAlpha m = true ↔ m = 4 ∨ m = 5 := by simp [bc7SeparateAlpha]

theorem forceConfigLegal_eq_false_iff {r : RwRegs} : forceConfigLegal r = false ↔
    (cfgFormat r.cfg = .bc7 ∧ (7 < forceMode r.force ∨
      (forceRot r.force ≠ 0 ∧ forceMode r.force ≠ 4 ∧ forceMode r.force ≠ 5) ∨
      (forceIsb r.force ≠ 0 ∧ forceMode r.force ≠ 4))) ∨
    (cfgFormat r.cfg = .bc6h ∧
      (forceMode r.force = 0 ∨ 14 < forceMode r.force ∨ forceRot r.force ≠ 0 ∨ forceIsb r.force ≠ 0)) := by
  rw [← Bool.not_eq_true]
  unfold forceConfigLegal
  cases cfgFormat r.cfg with
  | bc7 =>
    simp only [Bool.and_eq_true, Bool.or_eq_true, decide_eq_true_eq, beq_iff_eq, bc7SeparateAlpha_iff, true_and,
      reduceCtorEq, false_and, or_false]
    omega
  | bc6h =>
    simp only [Bool.and_eq_true, decide_eq_true_eq, beq_iff_eq, true_and, reduceCtorEq, false_and, false_or]
    omega

/-- The shapes of each mode: 64, 16 in mode 0, one in the modes of one region (42_partition_lut.md R205). -/
theorem bc7Shapes_eq : ∀ m ≤ 7, bc7Shapes m = if m = 0 then 16 else if m = 4 ∨ m = 5 ∨ m = 6 then 1 else 64 := by
  decide

theorem bc6hShapes_eq : ∀ m ≤ 14, bc6hShapes m = if m ≤ 10 then 32 else 1 := by decide

/-- Of a legal mode's shapes, those FORCE may not name (a field of six bits, 10_state.md R36). -/
theorem forceShapeLegal_eq_false_iff {r : RwRegs} (hcfg : forceConfigLegal r = true) : forceShapeLegal r = false ↔
    (cfgFormat r.cfg = .bc7 ∧ ((forceMode r.force = 0 ∧ 15 < forceShape r.force) ∨
      ((forceMode r.force = 4 ∨ forceMode r.force = 5 ∨ forceMode r.force = 6) ∧ forceShape r.force ≠ 0))) ∨
    (cfgFormat r.cfg = .bc6h ∧ ((forceMode r.force ≤ 10 ∧ 31 < forceShape r.force) ∨
      (11 ≤ forceMode r.force ∧ forceShape r.force ≠ 0))) := by
  have hshape : forceShape r.force < 64 := fieldOf_lt r.force 5 6
  have hmode := mt (forceConfigLegal_eq_false_iff (r := r)).2 (by simp [hcfg])
  unfold forceShapeLegal
  cases hfmt : cfgFormat r.cfg with
  | bc7 =>
    simp only [hfmt, true_and, reduceCtorEq, false_and, or_false] at hmode ⊢
    rw [decide_eq_false_iff_not, bc7Shapes_eq _ (by omega)]
    split_ifs <;> omega
  | bc6h =>
    simp only [hfmt, true_and, reduceCtorEq, false_and, false_or] at hmode ⊢
    rw [decide_eq_false_iff_not, bc6hShapes_eq _ (by omega)]
    split_ifs <;> omega

theorem tileDimLegal_eq_false_iff {t : Word} :
    tileDimLegal t = false ↔ tileW t = 0 ∨ 4 < tileW t ∨ tileH t = 0 ∨ 4 < tileH t := by
  rw [← Bool.not_eq_true, tileDimLegal_iff]
  omega

/-! ### The order of the checks (60_exceptions.md R421) -/

theorem exec_encode_of_error {s : State} {e : ErrCode} (h : encodeChecks s.inputs = .error e) :
    ∃ t, exec .encode s = .next t ∧ OnlyErrorRaised s t e := by
  have hexec : exec .encode s = .next (s.raise e) := by
    show execEncode s = _
    rw [execEncode, h]
  exact ⟨_, hexec, onlyErrorRaised_raise s e⟩

/-- Settles O20: each check fails when those before it pass. -/
theorem encodeErrorOrder : Obligations.EncodeErrorOrder := by
  rintro s en mode shape rot isb badMode badDim badShape rfl rfl rfl rfl rfl hmode hdim hshape
  replace hmode := hmode.trans forceConfigLegal_eq_false_iff.symm
  replace hdim := hdim.trans tileDimLegal_eq_false_iff.symm
  refine ⟨fun halpha => exec_encode_of_error ?_, fun halpha hen hbad => exec_encode_of_error ?_,
    fun halpha hok hbad => exec_encode_of_error ?_, fun halpha hen hok hokdim hbad => exec_encode_of_error ?_⟩
  · rw [encodeChecks, if_pos halpha]
  · rw [encodeChecks, if_neg halpha, hen, hmode.1 hbad]
    rfl
  · rw [hmode] at hok
    rw [encodeChecks, if_neg halpha, if_neg (by simpa using hok), hdim.1 hbad]
    rfl
  · rw [hmode, Bool.not_eq_false] at hok
    rw [hdim, Bool.not_eq_false] at hokdim
    have hillegal := (hshape.trans (forceShapeLegal_eq_false_iff hok).symm).1 hbad
    rw [encodeChecks, if_neg halpha, hen, hok, hokdim, hillegal]
    rfl

/-- Settles O21: of the ends of ENCODE the fault is that of a tile with a valid slot that is not fully written. -/
theorem encodeFaultsOnUnwrittenSlot : Obligations.EncodeFaultsOnUnwrittenSlot := by
  intro s
  have hunwritten : tileWritten s.inputs = false ↔ ∃ i : Fin 16, i.val % 4 < tileW s.inputs.tiledim ∧
      i.val / 4 < tileH s.inputs.tiledim ∧ ¬(s.inputs.wrLo[i] = true ∧ s.inputs.wrHi[i] = true) := by
    rw [← Bool.not_eq_true, tileWritten_iff]
    simp only [slotValid_iff, not_forall, exists_prop, and_assoc]
  have hexec : exec .encode s = execEncode s := rfl
  rw [hexec, ← hunwritten]
  obtain ⟨e, he, hx⟩ | ⟨⟨-, hwritten⟩, hx⟩ | ⟨hok, hnot, hx⟩ := execEncode_cases s
  · simp [hx, he]
  · simp [hx, hwritten]
  · simp [hx, hok, hnot]

end Sys2Proof.Machine

/-! SUPPORT. The fields of a candidate fit its block (48_packer_bc7.md R368, 46_index_assign.md R307, 44_quantizer.md
R248). -/

namespace Sys2Proof.Machine

/-! ### Fields that fit -/

theorem fitsWidths_replicate_iff {n w : Nat} {vs : List Nat} :
    fitsWidths (List.replicate n w) vs = true ↔ vs.length = n ∧ ∀ v ∈ vs, v < 2 ^ w := by
  rw [fitsWidths_iff]
  induction n generalizing vs with
  | zero => cases vs <;> simp
  | succ n ih => cases vs <;> simp [List.replicate_succ, ih, and_left_comm]

theorem fitsWidths_append {ws ws' vs vs' : List Nat} (h : fitsWidths ws vs = true) (h' : fitsWidths ws' vs' = true) :
    fitsWidths (ws ++ ws') (vs ++ vs') = true :=
  fitsWidths_iff.2 (List.rel_append (fitsWidths_iff.1 h) (fitsWidths_iff.1 h'))

/-! ### Indices (46_index_assign.md R301, R307) -/

/-- The limit of an index is that of its field, one bit less at an anchor. -/
theorem indexLimit_eq {b : Nat} (hb : 0 < b) (anchor : Bool) :
    indexLimit b anchor = 2 ^ (if anchor then b - 1 else b) := by
  obtain ⟨k, rfl⟩ := Nat.exists_eq_succ_of_ne_zero hb.ne'
  cases anchor with
  | false => rfl
  | true => simp [indexLimit, Nat.pow_succ]

/-- The comparator's index in a full palette fits the field of its pixel. -/
theorem nearestEntry_index_lt {b : Nat} (hb : 0 < b) (ww : List Nat) (v : List Int) {pal : List (List Int)}
    (hpal : pal.length = 2 ^ b) (anchor : Bool) :
    (nearestEntry ww v pal (indexLimit b anchor)).1 < 2 ^ (if anchor then b - 1 else b) := by
  obtain ⟨hpos, hle⟩ := indexLimit_range hb anchor
  rw [← indexLimit_eq hb]
  exact (nearestEntry_spec hpos (hpal ▸ hle) rfl).1

/-- The entries of an index array fit their fields if the assigned indices do; the others are 0 (46_index_assign.md
R305). -/
theorem fitsWidths_indexArray {asg : List (Nat × Nat × Nat)} {px : List Nat} {N : Nat → Nat × Nat} {w : Nat → Nat}
    (hasg : asg.Perm (px.map fun i => (i, N i))) (hN : ∀ i ∈ px, (N i).1 < 2 ^ w i) :
    fitsWidths (pixels.map w) (indexArray asg) = true := by
  refine fitsWidths_map fun i hi => ?_
  cases hfind : asg.find? fun a => a.1 == i with
  | none => exact Nat.two_pow_pos _
  | some a =>
    obtain ⟨i', hi', rfl⟩ := List.mem_map.1 (hasg.mem_iff.1 (List.mem_of_find?_eq_some hfind))
    obtain rfl : i' = i := by simpa using List.find?_some hfind
    exact hN i' hi'

/-! ### BC7 candidates -/

theorem length_palette7 (b : Nat) (eA eB : List Int) : (palette7 b eA eB).length = 2 ^ b := by simp [palette7]

/-- What the fields of a BC7 block depend on in the mode table (48_packer_bc7.md R360). -/
theorem bc7Mode_fields : ∀ m < 8,
    (if bc7SeparateAlpha m then 4 else 1) = 2 ^ (bc7Mode m).rb ∧ (if m = 4 then 2 else 1) = 2 ^ (bc7Mode m).isb ∧
    ((bc7Mode m).ib2 = 0 ↔ bc7SeparateAlpha m = false) ∧
    ((bc7Mode m).epb = 1 ∧ (bc7Mode m).spb = 0 ∨ (bc7Mode m).epb = 0 ∧ (bc7Mode m).spb ≤ 1) := by
  decide

section

variable {f : Fitter} {t : Tile} {p : Position} (hm : p.mode < 8) (hp : p ∈ positions7 p.mode)
include hm

theorem colourChoice7_index_lt (k i : Nat) : (colourChoice7 f t p k i).1 <
    2 ^ (if (anchors (bc7Mode p.mode).ns p.shape).contains i then colourBits p.mode p.isb - 1
      else colourBits p.mode p.isb) :=
  nearestEntry_index_lt (bits_pos (colourBits_legal hm)) _ _ (length_palette7 _ _ _) _

theorem alphaChoice7_index_lt (hsep : bc7SeparateAlpha p.mode = true) (i : Nat) : (alphaChoice7 f t p i).1 <
    2 ^ (if i = 0 then alphaBits p.mode p.isb - 1 else alphaBits p.mode p.isb) := by
  have hlt : (alphaChoice7 f t p i).1 <
      2 ^ (if (i == 0) = true then alphaBits p.mode p.isb - 1 else alphaBits p.mode p.isb) :=
    nearestEntry_index_lt (bits_pos (alphaBits_legal hm hsep)) _ _ (length_palette7 _ _ _) _
  simpa only [beq_iff_eq] using hlt

include hp in
/-- The colour indices fit an array of their width. -/
theorem fitsWidths_colourIndices : fitsWidths (pixels.map fun i =>
      if (anchors (bc7Mode p.mode).ns p.shape).contains i then colourBits p.mode p.isb - 1
      else colourBits p.mode p.isb) (evalBc7 f t p).2.idx1 = true := by
  obtain ⟨-, -, -, -, -, hidx⟩ := evalBc7_fields f t p
  rw [hidx]
  exact fitsWidths_indexArray (colourAssignment7_perm hm hp) fun i _ => colourChoice7_index_lt hm _ i

/-- The alpha indices fit an array of their width. -/
theorem fitsWidths_alphaIndices (hsep : bc7SeparateAlpha p.mode = true) : fitsWidths (pixels.map fun i =>
      if i = 0 then alphaBits p.mode p.isb - 1 else alphaBits p.mode p.isb) (evalBc7 f t p).2.idx2 = true := by
  rw [(evalBc7_alpha f t p hsep).2]
  exact fitsWidths_indexArray (alphaAssignment7_perm hm hsep) fun i _ => alphaChoice7_index_lt hm hsep i

end

/-- Without separate alpha a candidate has neither alpha codes nor alpha indices (47_mode_selector.md R323). -/
theorem evalBc7_no_alpha {f : Fitter} {t : Tile} {p : Position} (hsep : bc7SeparateAlpha p.mode = false) :
    (evalBc7 f t p).2.alphas = [] ∧ (evalBc7 f t p).2.idx2 = [] := by
  unfold evalBc7
  dsimp only
  rw [if_neg (by simp [hsep])]
  split_ifs <;> exact ⟨rfl, rfl⟩

section

variable {f : Fitter} {t : Tile} {p : Position} (hm : p.mode < 8) (hp : p ∈ positions7 p.mode)

/-- The pairs of a candidate are quantized ones. -/
theorem mem_ends_evalBc7 {E : Ends} (hE : E ∈ (evalBc7 f t p).2.ends) :
    ∃ a b, E = quantizePair7 (bc7Mode p.mode) a b := by
  obtain ⟨-, -, -, -, hends, -⟩ := evalBc7_fields f t p
  rw [hends] at hE
  obtain ⟨k, -, rfl⟩ := List.mem_map.1 hE
  exact ⟨_, _, rfl⟩

theorem length_ends_evalBc7 : (evalBc7 f t p).2.ends.length = (bc7Mode p.mode).ns := by
  obtain ⟨-, -, -, -, hends, -⟩ := evalBc7_fields f t p
  simp [hends]

/-- An entry of a list of integers below a bound, or 0 past its end. -/
theorem toNat_getD_lt {l : List Int} {n : Nat} (hl : ∀ x ∈ l, x.toNat < n) (hn : 0 < n) (k : Nat) :
    (l.getD k 0).toNat < n := by
  rcases Nat.lt_or_ge k l.length with hlt | hge
  · rw [List.getD_eq_getElem _ _ hlt]
    exact hl _ (List.getElem_mem hlt)
  · rwa [List.getD_eq_default _ _ hge]

/-- Colour codes: one per channel, region and end, each of the mode's width (48_packer_bc7.md R361 item 4). -/
theorem fitsWidths_codes : fitsWidths (List.replicate (bc7CodeCount p.mode) (bc7Mode p.mode).cb)
    (evalBlock7 f t p).codes = true := by
  obtain ⟨hmode, -⟩ := evalBc7_fields f t p
  refine fitsWidths_replicate_iff.2 ⟨?_, fun v hv => ?_⟩
  · simp [evalBlock7, candidateBlock7, hmode, length_ends_evalBc7, bc7CodeCount, Nat.mul_assoc]
  · obtain ⟨ch, -, hv⟩ := List.mem_flatMap.1 hv
    obtain ⟨E, hE, hv⟩ := List.mem_flatMap.1 hv
    obtain ⟨a, b, rfl⟩ := mem_ends_evalBc7 hE
    have hrange (e : Nat) := (quantizePair7_range (bc7Mode p.mode) a b e).1
    rcases List.mem_pair.1 hv with rfl | rfl
    · exact toNat_getD_lt (hrange 0) (Nat.two_pow_pos _) ch
    · exact toNat_getD_lt (hrange 1) (Nat.two_pow_pos _) ch

/-- Two separate alpha codes, or none (48_packer_bc7.md R361 item 5). -/
theorem fitsWidths_alphas : fitsWidths (bc7AlphaWidths p.mode) (evalBlock7 f t p).alphas = true := by
  have halphas : (evalBlock7 f t p).alphas = (evalBc7 f t p).2.alphas := rfl
  rw [halphas, bc7AlphaWidths]
  cases hsep : bc7SeparateAlpha p.mode with
  | false => rw [(evalBc7_no_alpha hsep).1]; rfl
  | true =>
    rw [(evalBc7_alpha f t p hsep).1, fitsWidths_iff]
    exact .cons (evalAlpha7_range 0) (.cons (evalAlpha7_range 1) .nil)

include hm in
/-- The p-bits: one per end, one per region, or none (48_packer_bc7.md R361 item 6). -/
theorem fitsWidths_pbits : fitsWidths (List.replicate (bc7PbitCount p.mode) 1) (evalBlock7 f t p).pbits = true := by
  obtain ⟨hmode, -⟩ := evalBc7_fields f t p
  obtain ⟨-, -, -, hpb⟩ := bc7Mode_fields _ hm
  have hbit {E : Ends} (hE : E ∈ (evalBc7 f t p).2.ends) (e : Nat) : E.pbit e < 2 := by
    obtain ⟨a, b, rfl⟩ := mem_ends_evalBc7 hE
    exact (quantizePair7_range (bc7Mode p.mode) a b e).2
  rw [fitsWidths_replicate_iff, bc7PbitCount, evalBlock7, candidateBlock7, hmode]
  dsimp only
  split_ifs with hepb hspb
  · refine ⟨by simp [length_ends_evalBc7, hepb, show (bc7Mode p.mode).spb = 0 by omega], fun v hv => ?_⟩
    obtain ⟨E, hE, hv⟩ := List.mem_flatMap.1 hv
    rcases List.mem_pair.1 hv with rfl | rfl
    · exact hbit hE 0
    · exact hbit hE 1
  · refine ⟨by simp [length_ends_evalBc7, hspb, show (bc7Mode p.mode).epb = 0 by omega], fun v hv => ?_⟩
    obtain ⟨E, hE, rfl⟩ := List.mem_map.1 hv
    exact hbit hE 0
  · simp [show (bc7Mode p.mode).epb = 0 by omega, show (bc7Mode p.mode).spb = 0 by omega]

include hm

/-- With separate alpha the only anchor is pixel 0 (42_partition_lut.md R202). -/
theorem anchors_of_separateAlpha (hsep : bc7SeparateAlpha p.mode = true) :
    anchors (bc7Mode p.mode).ns p.shape = [0] := by
  rw [(bc7SeparateAlpha_facts _ hm hsep).2]
  rfl

include hp

/-- Shape, rotation and index selection (47_mode_selector.md R322). -/
theorem fitsWidths_head : fitsWidths [(bc7Mode p.mode).pb, (bc7Mode p.mode).rb, (bc7Mode p.mode).isb]
    [(evalBlock7 f t p).shape, (evalBlock7 f t p).rot, (evalBlock7 f t p).isb] = true := by
  obtain ⟨-, hshape, hrot, hisb, -⟩ := evalBc7_fields f t p
  obtain ⟨-, hs, hr, hi⟩ := mem_positions7.1 hp
  obtain ⟨hrb, hib, -⟩ := bc7Mode_fields _ hm
  rw [fitsWidths_iff]
  exact .cons (hshape.trans_lt hs) (.cons (hrot.trans_lt (hr.trans_eq hrb))
    (.cons (hisb.trans_lt (hi.trans_eq hib)) .nil))

/-- The index arrays hold colour and alpha indices, swapped under mode 4 with ISB = 1 (48_packer_bc7.md R364). -/
theorem fitsWidths_indices :
    fitsWidths (bc7Index1Widths p.mode p.shape) (evalBlock7 f t p).idx1 = true ∧
    fitsWidths (bc7Index2Widths p.mode) (evalBlock7 f t p).idx2 = true := by
  obtain ⟨hmode, -, -, hisb, -⟩ := evalBc7_fields f t p
  obtain ⟨-, -, hib2, -⟩ := bc7Mode_fields _ hm
  have hcolour := fitsWidths_colourIndices (f := f) (t := t) hm hp
  have hblock : (evalBlock7 f t p).idx1 =
      (if p.mode = 4 && p.isb == 1 then (evalBc7 f t p).2.idx2 else (evalBc7 f t p).2.idx1) ∧
      (evalBlock7 f t p).idx2 =
      (if p.mode = 4 && p.isb == 1 then (evalBc7 f t p).2.idx1 else (evalBc7 f t p).2.idx2) := by
    simp only [evalBlock7, candidateBlock7, hmode, hisb, and_self]
  rw [hblock.1, hblock.2, bc7Index1Widths, bc7Index2Widths]
  cases hsep : bc7SeparateAlpha p.mode with
  | false =>
    have hnot4 : (p.mode = 4 && p.isb == 1) = false := by
      simp [bc7SeparateAlpha] at hsep
      simp [hsep.1]
    rw [colourBits, hnot4] at hcolour
    rw [hnot4, if_pos (hib2.2 hsep), (evalBc7_no_alpha hsep).2]
    exact ⟨hcolour, rfl⟩
  | true =>
    have halpha := fitsWidths_alphaIndices (f := f) (t := t) hm hsep
    have hne : (bc7Mode p.mode).ib2 ≠ 0 := fun h => by simp [hib2.1 h] at hsep
    rw [if_neg hne]
    rw [anchors_of_separateAlpha hm hsep] at hcolour ⊢
    simp only [List.contains_cons, List.contains_nil, Bool.or_false, beq_iff_eq] at hcolour ⊢
    rw [colourBits] at hcolour
    rw [alphaBits] at halpha
    by_cases hswap : (p.mode = 4 && p.isb == 1) = true
    · simp only [hswap, if_true] at hcolour halpha ⊢
      exact ⟨halpha, hcolour⟩
    · simp only [hswap, if_false, Bool.false_eq_true] at hcolour halpha ⊢
      exact ⟨hcolour, halpha⟩

theorem evalBlock7_wf : (evalBlock7 f t p).wf p.mode = true := by
  obtain ⟨hidx1, hidx2⟩ := fitsWidths_indices (f := f) (t := t) hm hp
  refine Block7.wf_iff.2 ⟨fitsWidths_head hm hp, fitsWidths_codes, fitsWidths_alphas, fitsWidths_pbits hm, ?_, hidx2⟩
  rwa [evalBlock7_shape]

end

/-! ### BC6H candidates -/

theorem length_palette6 (signed : Bool) (p b : Nat) (qA qB : List Int) :
    (palette6 signed p b qA qB).length = 2 ^ b := by
  simp [palette6]

theorem deltaStored_lt_two_pow (d : Int) (db : Nat) : deltaStored d db < 2 ^ db := by
  have hcast := deltaStored_cast d db
  have hlt : d % 2 ^ db < 2 ^ db := Int.emod_lt_of_pos d (by positivity)
  exact_mod_cast hcast.trans_lt hlt

/-- The first endpoint's widths are the precision, and the others all have the same widths (49_packer_bc6h.md R391). -/
theorem bc6hEndWidths_eq {m : Nat} (hm : m ∈ bc6hModes) : bc6hEndWidths m =
    (List.range 3).map (bc6hFieldWidth m 0) ++
      (List.range ((bc6hMode m).ns * 2 - 1)).flatMap fun _ => (List.range 3).map (bc6hFieldWidth m 1) := by
  revert m
  decide

/-- A stored field has the width of its place (49_packer_bc6h.md R391, R394). -/
theorem storedEnd_lt (m : Nat) (w e : List Int) (ch : Nat) :
    storedEnd m w true e ch < 2 ^ bc6hFieldWidth m 0 ch ∧ storedEnd m w false e ch < 2 ^ bc6hFieldWidth m 1 ch := by
  refine ⟨deltaStored_lt_two_pow _ _, ?_⟩
  unfold storedEnd bc6hFieldWidth
  cases (bc6hMode m).transformed <;> exact deltaStored_lt_two_pow _ _

section

variable {f : Fitter} {t : Tile} {signed : Bool} {p : Position} {e : Nat} {c : Candidate}
  (hm : p.mode ∈ bc6hModes) (hp : p ∈ positions6 p.mode) (heval : evalBc6h f t signed p = some (e, c))
include hm heval

theorem fitsWidths_ends6 : fitsWidths (bc6hEndWidths p.mode) (candidateBlock6 c).ends = true := by
  obtain ⟨-, -, hmode, -, hends, -⟩ := evalBc6h_eq_some heval
  obtain ⟨hlo, hhi⟩ := mem_bc6hModes.1 hm
  obtain ⟨hpos, -⟩ := bc6hMode_facts _ hhi hlo
  have hlen : (endsInOrder c.ends).length = (bc6hMode p.mode).ns * 2 := by
    rw [length_endsInOrder, hends, length_evalEnds6]
  obtain ⟨w, rest, hw⟩ := List.exists_cons_of_ne_nil (l := endsInOrder c.ends)
    (List.ne_nil_of_length_pos (by omega))
  have hrest : rest.length = (bc6hMode p.mode).ns * 2 - 1 := by
    rw [hw, List.length_cons] at hlen
    omega
  rw [candidateBlock6_ends hw, hmode, bc6hEndWidths_eq hm, ← hrest]
  refine fitsWidths_append (fitsWidths_map fun ch _ => (storedEnd_lt _ w w ch).1) ?_
  have hpairs : List.Forall₂ (fun (_ : Nat) (_ : List Int) => True) (List.range rest.length) rest :=
    List.forall₂_iff_get.2 ⟨by simp, fun _ _ _ => trivial⟩
  exact fitsWidths_iff.2 (List.rel_flatMap hpairs fun _ x _ =>
    fitsWidths_iff.1 (fitsWidths_map fun ch _ => (storedEnd_lt _ w x ch).2))

include hp

theorem fitsWidths_indices6 : fitsWidths (bc6hIndexWidths p.mode p.shape) (candidateBlock6 c).idx = true := by
  obtain ⟨-, -, -, -, -, (hidx : (candidateBlock6 c).idx = _)⟩ := evalBc6h_eq_some heval
  obtain ⟨hlo, hhi⟩ := mem_bc6hModes.1 hm
  obtain ⟨-, -, -, -, -, hib, -⟩ := bc6hMode_facts _ hhi hlo
  rw [hidx]
  exact fitsWidths_indexArray (assignment6_perm hhi hlo hp) fun i _ =>
    nearestEntry_index_lt (bits_pos hib) _ _ (length_palette6 _ _ _ _ _) _

theorem candidateBlock6_wf : (candidateBlock6 c).wf p.mode = true := by
  obtain ⟨-, -, -, (hshape : (candidateBlock6 c).shape = p.shape), -⟩ := evalBc6h_eq_some heval
  obtain ⟨-, hs, -⟩ := mem_positions6.1 hp
  exact Block6.wf_iff.2 ⟨hshape.trans_lt hs, fitsWidths_ends6 hm heval, hshape ▸ fitsWidths_indices6 hm hp heval⟩

end

/-- Settles O29: each group of fields fits by its own lemma, in either format. -/
theorem candidateFieldsFitBlock : Obligations.CandidateFieldsFitBlock := by
  refine ⟨fun f boost r m p e c _ hfmt hm hp heval => ?_, fun f boost r m p e c _ hfmt hlo hhi hp heval => ?_⟩
  · obtain rfl := (mem_positions7.1 hp).1
    rw [evalAt_bc7 hfmt, Option.some_inj] at heval
    have hwf := evalBlock7_wf (f := f) (t := prepareTile boost r) hm hp
    rwa [evalBlock7, heval] at hwf
  · obtain rfl := (mem_positions6.1 hp).1
    rw [evalAt_bc6h hfmt] at heval
    exact candidateBlock6_wf (mem_bc6hModes.2 ⟨hlo, Nat.lt_succ_of_le hhi⟩) hp heval

end Sys2Proof.Machine
